-- ==== Sys2Proof/Word.lean ====
section
/-! DEFINITION. The words of the Gree IR codec block and the value types that its registers and ports carry
(10_state.md R23 to R31, 30_encoding.md R71, R80). Types only: what is computed from them stands under Machine/. -/

namespace Sys2Proof

/-- A frame byte, an immediate or a configuration value: 8 bits (00_scope.md R11). -/
abbrev Byte := BitVec 8

/-- The 16-bit command word `CMDW`, and the packed form of a command record (30_encoding.md R84, R85). -/
abbrev CmdWord := BitVec 16

/-- The 32-bit `STATUS` register (10_state.md R25). -/
abbrev StatusWord := BitVec 32

/-- A duration in microseconds: a `DUR_W` = 32-bit unsigned word (00_scope.md R10, 10_state.md R26). -/
abbrev Dur := BitVec 32

/-- A target temperature in °C, carried in 5 bits (30_encoding.md R84; the range rules are the commands'). -/
abbrev Temp := BitVec 5

/-- The 8-byte state frame `F[0..7]` (00_scope.md R11, 30_encoding.md R71). -/
abbrev Frame := Vector Byte 8

/-- `ModelVariant`, a closed enumeration in the source's order (30_encoding.md R80). -/
inductive Model where
  | generic | yaw1f | ybofb | yac1fb9 | yt1f
deriving DecidableEq, Repr, Inhabited

/-- `power` (10_state.md R27). -/
inductive Power where
  | off | on
deriving DecidableEq, Repr, Inhabited

/-- `mode` (10_state.md R27), in the order of the packed codes (30_encoding.md R84). -/
inductive Mode where
  | cool | heat | auto | dry | fanOnly | off
deriving DecidableEq, Repr, Inhabited

/-- `fan` as `STATE` and a decode hold it (10_state.md R24). -/
inductive Fan where
  | auto | low | medium | high
deriving DecidableEq, Repr, Inhabited

/-- `fan` as a command may give it: a speed, or ABSENT (10_state.md R27). -/
inductive FanArg where
  | speed (f : Fan)
  | absent
deriving DecidableEq, Repr, Inhabited

/-- `swing` (10_state.md R27). -/
inductive Swing where
  | off | vertical | horizontal | both
deriving DecidableEq, Repr, Inhabited

/-- `preset` (10_state.md R27). -/
inductive Preset where
  | none | sleep
deriving DecidableEq, Repr, Inhabited

/-- `ClimateCommand`, the record on `CMD_IN` (10_state.md R27). -/
structure ClimateCommand where
  power  : Power
  mode   : Mode
  temp   : Temp
  fan    : FanArg
  swing  : Swing
  preset : Preset
deriving DecidableEq, Repr, Inhabited

/-- A climate record whose fields may hold no value: `none` is the spec's ⊥ (10_state.md R24, R29). `STATE`
holds one, and a decode returns one on `CMD_OUT` and `RESULT`. -/
structure ClimateRecord where
  power  : Option Power
  mode   : Option Mode
  temp   : Option Temp
  fan    : Option Fan
  swing  : Option Swing
  preset : Option Preset
deriving DecidableEq, Repr, Inhabited

/-- `TimingProfile` (10_state.md R26). -/
structure TimingProfile where
  headerMark   : Dur
  headerSpace  : Dur
  bitMark      : Dur
  oneSpace     : Dur
  zeroSpace    : Dur
  messageSpace : Dur
deriving DecidableEq, Repr, Inhabited

/-- The level of a pulse entry (10_state.md R31). -/
inductive Level where
  | mark | space
deriving DecidableEq, Repr, Inhabited

/-- One entry `(level, dur)` of a pulse sequence (10_state.md R31). -/
structure Entry where
  level : Level
  dur   : Dur
deriving DecidableEq, Repr, Inhabited

/-- A pulse sequence: a finite ordered list of entries (10_state.md R31, 20_memory.md R64). -/
abbrev PulseSeq := List Entry

/-- The error taxonomy (60_exceptions.md R230), each with the values it carries (R232). -/
inductive DecodeError where
  | tooShort
  | tooLong
  | headerMismatch
  | bitDecode (byteIndex bitIndex : Fin 8)
  | footerMismatch
  | messageSpaceMismatch
  | unknownMode (raw : BitVec 3)
  | checksumMismatch (expected actual : BitVec 4)
deriving DecidableEq, Repr, Inhabited

/-- What `RESULT` carries: `Ok` with the frame (`DECP`) or the record (`UNPACK`, `RX`), or `Err(E)`
(00_scope.md R12, 10_state.md R28). -/
inductive Result where
  | okFrame  (f : Frame)
  | okRecord (r : ClimateRecord)
  | err      (e : DecodeError)
deriving DecidableEq, Repr, Inhabited

end Sys2Proof
end

