-- ==== Sys2Proof/Syntax.lean ====
section
/-! DEFINITION. The commands of the block, one constructor per row of spec/opcode_table.json (30_encoding.md R86, R87).
An operand keeps the width its row gives it, so every word of a row is a term; WellFormed says which operand values the
spec assigns. -/

namespace Sys2Proof

/-- A command with its immediate operands (30_encoding.md R85, R86, R88). -/
inductive Instr where
  /-- `CSUM` (40_checksum.md R111). -/
  | csum
  /-- `PACK` (41_frame_codec.md R120). -/
  | pack
  /-- `UNPACK` (41_frame_codec.md R130). -/
  | unpack
  /-- `RESOLVE model`, `model = IMM[2:0]` (42_timing_profile.md R151). -/
  | resolve (model : BitVec 3)
  /-- `ENCP repeat_count`, `repeat_count = IMM` (43_pulse_encoder.md R162). -/
  | encp (count : Byte)
  /-- `DECP` (44_pulse_decoder.md R190). -/
  | decp
  /-- `TX` (43_pulse_encoder.md R163). -/
  | tx
  /-- `RX` (44_pulse_decoder.md R195). -/
  | rx
  /-- `CFG MODEL, value` (45_control.md R210). -/
  | cfgModel (value : Byte)
  /-- `CFG STRICT, value` (45_control.md R210). -/
  | cfgStrict (value : Byte)
  /-- `CFG WIFI, value` (45_control.md R210). -/
  | cfgWifi (value : Byte)
  /-- `CFG REPEAT, value` (45_control.md R210). -/
  | cfgRepeat (value : Byte)
  /-- `SETST` (45_control.md R213). -/
  | setst
  /-- `GETST` (45_control.md R212). -/
  | getst
deriving DecidableEq, Repr, Inhabited

/-- Why a command word is no command: the two refusal reasons that concern the word alone (60_exceptions.md R238). -/
inductive BadWord where
  /-- Reserved `OP`, a non-zero unused `SEL` or `IMM`, `CFG` selector 4..15 (30_encoding.md R89, 45_control.md R214). -/
  | illegalCommand
  /-- `RESOLVE` with `IMM[7:3]` not 0 (42_timing_profile.md R151). -/
  | modelReserved
deriving DecidableEq, Repr, Inhabited

end Sys2Proof
end

