-- ==== Sys2Proof/WellFormed.lean ====
section
/-! DEFINITION. Which operand values the spec assigns (30_encoding.md R86, R87, R89; 10_state.md R23). A term that fails the
check still decodes: its meaning refuses it under the reason the spec names (60_exceptions.md R238). -/

namespace Sys2Proof

/-- The operands of `i` are values the spec assigns: model codes 0..4, repeat counts 1..255, flags 0 or 1. -/
def Instr.wellFormed : Instr → Bool
  | .csum => true
  | .pack => true
  | .unpack => true
  | .resolve model => decide (model.toNat ≤ 4)
  | .encp count => decide (count.toNat ≠ 0)
  | .decp => true
  | .tx => true
  | .rx => true
  | .cfgModel value => decide (value.toNat ≤ 4)
  | .cfgStrict value => decide (value.toNat ≤ 1)
  | .cfgWifi value => decide (value.toNat ≤ 1)
  | .cfgRepeat value => decide (value.toNat ≠ 0)
  | .setst => true
  | .getst => true

end Sys2Proof
end

