-- ==== Sys2Proof/Decode.lean ====
section
/-! DEFINITION. Decoding a command word (30_encoding.md R85 to R89), total and rejecting by name; then the encoder, written
from the same map. A word is one 16-bit value, so the decoder takes the word itself. -/

namespace Sys2Proof

/-- `OP = CMDW[15:12]` (30_encoding.md R85). -/
def opField (w : CmdWord) : BitVec 4 := w.extractLsb' 12 4

/-- `SEL = CMDW[11:8]` (30_encoding.md R85). -/
def selField (w : CmdWord) : BitVec 4 := w.extractLsb' 8 4

/-- `IMM = CMDW[7:0]` (30_encoding.md R85, R88). -/
def immField (w : CmdWord) : Byte := w.extractLsb' 0 8

/-- A command without operands: its unused `SEL` and `IMM` must be 0 (30_encoding.md R85, R89). -/
def decodePlain (i : Instr) (sel : BitVec 4) (imm : Byte) : Except BadWord Instr :=
  if sel = 0#4 ∧ imm = 0#8 then .ok i else .error .illegalCommand

/-- `RESOLVE`: `SEL` must be 0, then `IMM[7:3]` must be 0 (42_timing_profile.md R151; log 10). DESIGN CHOICE: `SEL` is checked before
the model code (log 11). -/
def decodeResolve (sel : BitVec 4) (imm : Byte) : Except BadWord Instr :=
  if sel ≠ 0#4 then .error .illegalCommand
  else if imm.extractLsb' 3 5 ≠ 0#5 then .error .modelReserved
  else .ok (.resolve (imm.extractLsb' 0 3))

/-- `ENCP`: `SEL` must be 0 (30_encoding.md R89); the repeat count is `IMM`. DESIGN CHOICE: `SEL` is checked before the repeat count,
so 0x5100 is `IllegalCommand` and not `RepeatZero` (log 11). -/
def decodeEncp (sel : BitVec 4) (imm : Byte) : Except BadWord Instr :=
  if sel = 0#4 then .ok (.encp imm) else .error .illegalCommand

/-- `CFG`: the selector map (30_encoding.md R87); selectors 4..15 are reserved. -/
def decodeCfg (sel : BitVec 4) (imm : Byte) : Except BadWord Instr :=
  match sel.toNat with
  | 0 => .ok (.cfgModel imm)
  | 1 => .ok (.cfgStrict imm)
  | 2 => .ok (.cfgWifi imm)
  | 3 => .ok (.cfgRepeat imm)
  | _ => .error .illegalCommand

/-- The opcode map (30_encoding.md R86); `OP` 0x0 and 0xC..0xF are reserved (R89). -/
def decode (w : CmdWord) : Except BadWord Instr :=
  match (opField w).toNat with
  | 1 => decodePlain .csum (selField w) (immField w)
  | 2 => decodePlain .pack (selField w) (immField w)
  | 3 => decodePlain .unpack (selField w) (immField w)
  | 4 => decodeResolve (selField w) (immField w)
  | 5 => decodeEncp (selField w) (immField w)
  | 6 => decodePlain .decp (selField w) (immField w)
  | 7 => decodePlain .tx (selField w) (immField w)
  | 8 => decodePlain .rx (selField w) (immField w)
  | 9 => decodeCfg (selField w) (immField w)
  | 10 => decodePlain .setst (selField w) (immField w)
  | 11 => decodePlain .getst (selField w) (immField w)
  | _ => .error .illegalCommand

/-- The command word with the three fields (30_encoding.md R85). -/
def commandWord (op sel : BitVec 4) (imm : Byte) : CmdWord :=
  BitVec.ofNat 16 (op.toNat * 2 ^ 12 + sel.toNat * 2 ^ 8 + imm.toNat)

/-- The command word of `i` (30_encoding.md R86, R87). -/
def encode : Instr → CmdWord
  | .csum => commandWord 1#4 0#4 0#8
  | .pack => commandWord 2#4 0#4 0#8
  | .unpack => commandWord 3#4 0#4 0#8
  | .resolve model => commandWord 4#4 0#4 (model.setWidth 8)
  | .encp count => commandWord 5#4 0#4 count
  | .decp => commandWord 6#4 0#4 0#8
  | .tx => commandWord 7#4 0#4 0#8
  | .rx => commandWord 8#4 0#4 0#8
  | .cfgModel value => commandWord 9#4 0#4 value
  | .cfgStrict value => commandWord 9#4 1#4 value
  | .cfgWifi value => commandWord 9#4 2#4 value
  | .cfgRepeat value => commandWord 9#4 3#4 value
  | .setst => commandWord 10#4 0#4 0#8
  | .getst => commandWord 11#4 0#4 0#8

/-- The command word that the low `nbits` bits of `w` make, every bit above them 0. -/
def tableWord (nbits w : Nat) : CmdWord := BitVec.ofNat 16 (w % 2 ^ nbits)

/-- What the decoder reads from an opcode-table row's word: every row is one 16-bit command word. -/
def decodeTableWord (nbits w : Nat) : Option Instr :=
  match decode (tableWord nbits w) with
  | .ok i => some i
  | .error _ => none

end Sys2Proof
end

