-- ==== Sys2Proof/Config.lean ====
section
/-! DEFINITION. What is fixed for one block: the fixed sizes (00_scope.md R9, R10), the OPEN parameters of the spec, and the
free values. An opaque constant has no body: no proof can learn its value, so what is proved holds for every value. -/

namespace Sys2Proof.Config

/-- `TOL_PCT`, the tolerance of every match in percent: OPEN, a natural number with `0 <= TOL_PCT <= 20`
(00_scope.md R10; log 6). The bound is in the type. -/
opaque tolPct : Fin 21

/-- `DEBOUNCE_MS`: OPEN, a window that the HOST must keep (70_reset_and_hazards.md R270). The block does not enforce it,
so no definition of the model reads it (log 27). -/
opaque debounceMs : Nat

/-- `REPEAT_MAX` (00_scope.md R10). -/
def repeatMax : Nat := 255

/-- `PULSE_MIN` (00_scope.md R10). -/
def pulseMin : Nat := 130

/-- `PULSE_MAX` (00_scope.md R10). -/
def pulseMax : Nat := 150

/-- `CARRIER_HZ` (00_scope.md R10, 43_pulse_encoder.md R164). -/
def carrierHz : Nat := 38000

/-! The free values of the output ports: what a port holds while the spec leaves it undefined (10_state.md R28,
70_reset_and_hazards.md R261; log 2). Each is applied to the counter `freeCtr` of State, so that two undefined values
need not be equal. -/

/-- The free value of `RESULT`. -/
opaque freeResult : Nat → Result

/-- The free value of `CMD_OUT`. -/
opaque freeCmdOut : Nat → ClimateRecord

/-- The free value of `FRAME_OUT`. -/
opaque freeFrameOut : Nat → Frame

/-- The free value of `PULSE_OUT`. -/
opaque freePulseOut : Nat → PulseSeq

/-- The free value of `PROFILE_OUT`. -/
opaque freeProfileOut : Nat → TimingProfile

/-- The free value of `CSUM_OUT`. -/
opaque freeCsumOut : Nat → BitVec 4

/-- The free value of `CARRIER_OUT`. -/
opaque freeCarrierOut : Nat → Nat

/-- The free bits on the lines of a `CMD_OUT` record that has no packed form: those of its ⊥ fields and bit 15 (30_encoding.md R84;
log 13). -/
opaque freeCmdBits : Nat → CmdWord

end Sys2Proof.Config
end

