-- ==== Sys2Proof/Machine/State.lean ====
section
/-! DEFINITION. The state of the block as plain data: its three registers (10_state.md R20 to R25), its ports (R28), and two
fields of the model's own (what the host will do next, and the counter of the free values); the reasons a step can stop;
and the state after reset (R34). -/

namespace Sys2Proof.Machine

/-- `CFG`, the device-level configuration; `none` is ⊥, "unwritten" (10_state.md R23, R29). -/
structure CfgReg where
  /-- `CFG.MODEL`, write-once. -/
  model  : Option Model
  /-- `CFG.STRICT`: false lenient, true strict. -/
  strict : Option Bool
  /-- `CFG.WIFI`. -/
  wifi   : Option Bool
  /-- `CFG.REPEAT`, 1..255. -/
  repeats : Option Byte
deriving DecidableEq, Repr

/-- The input ports (10_state.md R28): what the host drives for one command. -/
structure InPorts where
  cmdw      : CmdWord
  cmdIn     : CmdWord
  frameIn   : Frame
  pulseIn   : PulseSeq
  profileIn : TimingProfile
deriving DecidableEq, Repr

/-- The output ports (10_state.md R28). -/
structure OutPorts where
  result     : Result
  cmdOut     : ClimateRecord
  frameOut   : Frame
  pulseOut   : PulseSeq
  profileOut : TimingProfile
  csumOut    : BitVec 4
  carrierOut : Nat
deriving DecidableEq, Repr

/-- Where the host takes an input port's value from: a value of its own, or the output port of the same type, copied
(30_encoding.md R91; log 23). -/
inductive PortSource (α : Type) where
  | value (a : α)
  | copyOut
deriving DecidableEq, Repr

/-- Where the host takes `PULSE_IN` from: a capture, or a stretch of `PULSE_OUT`, `count` entries from index `start` on
(70_reset_and_hazards.md R267; log 23). -/
inductive PulseSource where
  | capture (p : PulseSeq)
  | copyOut (start count : Nat)
deriving DecidableEq, Repr

/-- One command of the host: the input ports it sets and the word it presents (70_reset_and_hazards.md R264). -/
structure Transaction where
  cmdw      : CmdWord
  cmdIn     : PortSource CmdWord
  frameIn   : PortSource Frame
  pulseIn   : PulseSource
  profileIn : PortSource TimingProfile
deriving DecidableEq, Repr

/-- What the host does in one step: it issues a command, or it asserts the reset input (70_reset_and_hazards.md R260, R264). -/
inductive HostRequest where
  | command (t : Transaction)
  | reset
deriving DecidableEq, Repr

/-- Why the machine faults. "No behaviour of this block is treated as `fault` or `stuck`"
(93_implementation_defined.md, part 1): there is no constructor, so no step faults (log 19). -/
inductive Fault where
deriving DecidableEq, Repr

/-- Why a command is refused: the closed list of 60_exceptions.md R238, and `notModelled`. A refused command takes no step
(R237). Every refusal is SAFE: the model stops where hardware behaviour is unspecified. -/
inductive Refusal where
  /-- An arm of `exec` without a meaning; no arm of this model raises it. Safe. -/
  | notModelled (mnemonic : String)
  /-- A reserved command word; `CFG STRICT` or `CFG WIFI` with a value above 1. Raised by decoding and by those two. Safe. -/
  | illegalCommand
  /-- A `CFG` field the command reads is ⊥ (10_state.md R29, 70_reset_and_hazards.md R262). Raised by `PACK`, `UNPACK`, `TX`, `RX`.
  Safe. -/
  | cfgUnwritten
  /-- A `STATE` field is ⊥ (10_state.md R29, 45_control.md R212). Raised by `GETST`. Safe. -/
  | stateUnwritten
  /-- Model code 5..7. Raised by decoding, `RESOLVE` and `CFG MODEL`. Safe. -/
  | modelReserved
  /-- `CFG.MODEL` written a second time. Raised by `CFG MODEL`. Safe. -/
  | modelRewrite
  /-- Repeat count 0. Raised by `ENCP` and `CFG REPEAT`. Safe. -/
  | repeatZero
  /-- A zero duration in `PROFILE_IN`. Raised by `ENCP` and `DECP`. Safe. -/
  | badProfile
  /-- `target_temperature` outside [16, 30]. Raised by `PACK` and `TX`. Safe. -/
  | tempOutOfRange
  /-- Power ON with mode OFF. Raised by `PACK` and `TX`. Safe. -/
  | powerOnModeOff
  /-- A reserved code or bit 15 in the packed `CMD_IN`. Raised by `PACK`, `TX` and `SETST`. Safe. -/
  | badCommandWord
  /-- A `SETST` record that breaks 10_state.md R30, holds a temperature outside 16..31, or fan ABSENT. Safe. -/
  | stateIllFormed
deriving DecidableEq, Repr

/-- The state of the block. -/
structure State where
  /-- `CFG` (10_state.md R23). -/
  cfg     : CfgReg
  /-- `STATE`, the last-known climate state (10_state.md R24). -/
  climate : ClimateRecord
  /-- `STATUS` (10_state.md R25). -/
  status  : StatusWord
  /-- The input ports (10_state.md R28). -/
  inp     : InPorts
  /-- The output ports (10_state.md R28). -/
  out     : OutPorts
  /-- What the host does next, first entry first. The model's own field (log 1). -/
  host    : List HostRequest
  /-- How many free values were taken so far. The model's own field (log 2, log 26). -/
  freeCtr : Nat
deriving DecidableEq, Repr

/-- Every `CFG` field ⊥ (10_state.md R34). -/
def CfgReg.reset : CfgReg := ⟨none, none, none, none⟩

/-- Every `STATE` field ⊥ (10_state.md R34). -/
def climateReset : ClimateRecord := ⟨none, none, none, none, none, none⟩

/-- DESIGN CHOICE: what the input ports hold before the host first drives them; no step reads it (log 7). -/
def InPorts.reset : InPorts := ⟨0#16, 0#16, Vector.replicate 8 0#8, [], ⟨0#32, 0#32, 0#32, 0#32, 0#32, 0#32⟩⟩

/-- Every output port at its `n`-th free value (10_state.md R28, 70_reset_and_hazards.md R261; log 2). -/
def OutPorts.undefined (n : Nat) : OutPorts where
  result     := Config.freeResult n
  cmdOut     := Config.freeCmdOut n
  frameOut   := Config.freeFrameOut n
  pulseOut   := Config.freePulseOut n
  profileOut := Config.freeProfileOut n
  csumOut    := Config.freeCsumOut n
  carrierOut := Config.freeCarrierOut n

/-- The state right after reset (10_state.md R34, 70_reset_and_hazards.md R260, R261): registers unwritten, `STATUS` 0,
output ports undefined, no request of the host taken yet. -/
def State.reset : State where
  cfg     := CfgReg.reset
  climate := climateReset
  status  := 0#32
  inp     := InPorts.reset
  out     := OutPorts.undefined 0
  host    := []
  freeCtr := 1

end Sys2Proof.Machine
end

