-- ==== Sys2Proof/Machine/Operands.lean ====
section
/-! DEFINITION. How operands are read: model codes (30_encoding.md R80), the packed command record (R84), the frame fields
(R72, 20_memory.md R54), the field codes (R74 to R76), and the tolerant pair test on a pulse sequence (44_pulse_decoder.md
R181, R182). -/

namespace Sys2Proof.Machine

/-! ### Model codes (30_encoding.md R80) -/

/-- The 3-bit code of a model. -/
def modelCode : Model → BitVec 3
  | .generic => 0#3
  | .yaw1f => 1#3
  | .ybofb => 2#3
  | .yac1fb9 => 3#3
  | .yt1f => 4#3

/-- The model of a code; 5 and above are reserved. -/
def modelOf : Nat → Option Model
  | 0 => some .generic
  | 1 => some .yaw1f
  | 2 => some .ybofb
  | 3 => some .yac1fb9
  | 4 => some .yt1f
  | _ => none

/-! ### The packed command record (30_encoding.md R84) -/

/-- Bit 0. -/
def powerBits : Power → BitVec 1
  | .off => 0#1
  | .on => 1#1

/-- The power of bit 0. -/
def powerOf (b : Bool) : Power := if b then .on else .off

/-- Bits 3:1. -/
def modeBits : Mode → BitVec 3
  | .cool => 0#3
  | .heat => 1#3
  | .auto => 2#3
  | .dry => 3#3
  | .fanOnly => 4#3
  | .off => 5#3

/-- The mode of bits 3:1; 6 and 7 are reserved. -/
def modeOfBits (b : BitVec 3) : Option Mode :=
  match b.toNat with
  | 0 => some .cool
  | 1 => some .heat
  | 2 => some .auto
  | 3 => some .dry
  | 4 => some .fanOnly
  | 5 => some .off
  | _ => none

/-- Bits 11:9 of a speed. -/
def fanBits : Fan → BitVec 3
  | .auto => 0#3
  | .low => 1#3
  | .medium => 2#3
  | .high => 3#3

/-- Bits 11:9 of a command's fan; 4 is ABSENT. -/
def fanArgBits : FanArg → BitVec 3
  | .speed f => fanBits f
  | .absent => 4#3

/-- The fan of bits 11:9; 5 to 7 are reserved. -/
def fanArgOfBits (b : BitVec 3) : Option FanArg :=
  match b.toNat with
  | 0 => some (.speed .auto)
  | 1 => some (.speed .low)
  | 2 => some (.speed .medium)
  | 3 => some (.speed .high)
  | 4 => some .absent
  | _ => none

/-- Bits 13:12. -/
def swingBits : Swing → BitVec 2
  | .off => 0#2
  | .vertical => 1#2
  | .horizontal => 2#2
  | .both => 3#2

/-- The swing of bits 13:12. -/
def swingOfBits (b : BitVec 2) : Swing :=
  match b.toNat with
  | 0 => .off
  | 1 => .vertical
  | 2 => .horizontal
  | _ => .both

/-- Bit 14. -/
def presetBits : Preset → BitVec 1
  | .none => 0#1
  | .sleep => 1#1

/-- The preset of bit 14. -/
def presetOf (b : Bool) : Preset := if b then .sleep else .none

/-- The fields of a packed record, bit 15 being 0. -/
def packFields (preset : BitVec 1) (swing : BitVec 2) (fan : BitVec 3) (temp : Temp) (mode : BitVec 3) (power : BitVec 1) :
    CmdWord :=
  BitVec.ofNat 16 (power.toNat + mode.toNat * 2 ^ 1 + temp.toNat * 2 ^ 4 + fan.toNat * 2 ^ 9 + swing.toNat * 2 ^ 12 +
    preset.toNat * 2 ^ 14)

/-- The packed form of a command. -/
def packCommand (c : ClimateCommand) : CmdWord :=
  packFields (presetBits c.preset) (swingBits c.swing) (fanArgBits c.fan) c.temp (modeBits c.mode) (powerBits c.power)

/-- Reading `CMD_IN`: none is `BadCommandWord`, a reserved code or bit 15 set. -/
def unpackCommand (w : CmdWord) : Option ClimateCommand :=
  if w.getLsbD 15 then none
  else
    match modeOfBits (w.extractLsb' 1 3), fanArgOfBits (w.extractLsb' 9 3) with
    | some mode, some fan =>
      some ⟨powerOf (w.getLsbD 0), mode, w.extractLsb' 4 5, fan, swingOfBits (w.extractLsb' 12 2), presetOf (w.getLsbD 14)⟩
    | _, _ => none

/-- The packed form of a record: none when a field is ⊥ ("has no packed form"). -/
def packRecord (r : ClimateRecord) : Option CmdWord :=
  match r with
  | ⟨some power, some mode, some temp, some fan, some swing, some preset⟩ =>
    some (packFields (presetBits preset) (swingBits swing) (fanBits fan) temp (modeBits mode) (powerBits power))
  | _ => none

/-- The 16 lines of `CMD_OUT`: the packed form where the record has one; else ("no packed form") a ⊥ field and the reserved bit 15
carry the bits of `free`, which no reader may rely on (log 13). A `CMD_OUT` that the spec leaves undefined holds a free record (log 2),
⊥ fields among what it may hold, so each of its lines, bit 15 too, may be 0 or 1. -/
def recordLines (free : CmdWord) (r : ClimateRecord) : CmdWord :=
  match packRecord r with
  | some w => w
  | none =>
    packFields ((r.preset.map presetBits).getD (free.extractLsb' 14 1)) ((r.swing.map swingBits).getD (free.extractLsb' 12 2))
      ((r.fan.map fanBits).getD (free.extractLsb' 9 3)) (r.temp.getD (free.extractLsb' 4 5))
      ((r.mode.map modeBits).getD (free.extractLsb' 1 3)) ((r.power.map powerBits).getD (free.extractLsb' 0 1)) +
      BitVec.ofNat 16 ((free.extractLsb' 15 1).toNat * 2 ^ 15)

/-- A command as a record: a speed for ABSENT is the caller's (`SETST` refuses ABSENT; `PACK` writes it as AUTO, 41_frame_codec.md R123). -/
def fanOfArg : FanArg → Fan
  | .speed f => f
  | .absent => .auto

/-- The record that holds a command's values. -/
def recordOf (c : ClimateCommand) : ClimateRecord :=
  ⟨some c.power, some c.mode, some c.temp, some (fanOfArg c.fan), some c.swing, some c.preset⟩

/-! ### The frame fields (30_encoding.md R72) -/

/-- The named fields of the frame, in the order of the table of R72. -/
inductive FrameField where
  | mode | power | fan | swingAuto | sleep
  | temp | timerHalfHr | timerTensHr | timerEn
  | timerHours | turbo | light | modelFlag | xfan
  | rsvd3 | marker1
  | swingV | swingH | rsvd4
  | displayTemp | ifeel | marker2 | wifi | rsvd5
  | rsvd6
  | rsvd7a | econo | rsvd7b | sum
deriving DecidableEq, Repr

/-- The byte that holds a field. -/
def fieldByte : FrameField → Fin 8
  | .mode | .power | .fan | .swingAuto | .sleep => 0
  | .temp | .timerHalfHr | .timerTensHr | .timerEn => 1
  | .timerHours | .turbo | .light | .modelFlag | .xfan => 2
  | .rsvd3 | .marker1 => 3
  | .swingV | .swingH | .rsvd4 => 4
  | .displayTemp | .ifeel | .marker2 | .wifi | .rsvd5 => 5
  | .rsvd6 => 6
  | .rsvd7a | .econo | .rsvd7b | .sum => 7

/-- The offset `o` of a field's least-significant bit in its byte. -/
def fieldOffset : FrameField → Nat
  | .mode => 0
  | .power => 3
  | .fan => 4
  | .swingAuto => 6
  | .sleep => 7
  | .temp => 0
  | .timerHalfHr => 4
  | .timerTensHr => 5
  | .timerEn => 7
  | .timerHours => 0
  | .turbo => 4
  | .light => 5
  | .modelFlag => 6
  | .xfan => 7
  | .rsvd3 => 0
  | .marker1 => 4
  | .swingV => 0
  | .swingH => 4
  | .rsvd4 => 7
  | .displayTemp => 0
  | .ifeel => 2
  | .marker2 => 3
  | .wifi => 6
  | .rsvd5 => 7
  | .rsvd6 => 0
  | .rsvd7a => 0
  | .econo => 2
  | .rsvd7b => 3
  | .sum => 4

/-- The width `w` of a field. -/
def fieldWidth : FrameField → Nat
  | .mode => 3
  | .power => 1
  | .fan => 2
  | .swingAuto => 1
  | .sleep => 1
  | .temp => 4
  | .timerHalfHr => 1
  | .timerTensHr => 2
  | .timerEn => 1
  | .timerHours => 4
  | .turbo => 1
  | .light => 1
  | .modelFlag => 1
  | .xfan => 1
  | .rsvd3 => 4
  | .marker1 => 4
  | .swingV => 4
  | .swingH => 3
  | .rsvd4 => 1
  | .displayTemp => 2
  | .ifeel => 1
  | .marker2 => 3
  | .wifi => 1
  | .rsvd5 => 1
  | .rsvd6 => 8
  | .rsvd7a => 2
  | .econo => 1
  | .rsvd7b => 1
  | .sum => 4

/-- `(1 << w) - 1` of a field's width. -/
def fieldMask (f : FrameField) : Byte := BitVec.ofNat 8 (2 ^ fieldWidth f - 1)

/-- `FrameGet(F, FIELD)` (20_memory.md R54). -/
def frameGet (F : Frame) (f : FrameField) : Byte := (F[fieldByte f] >>> fieldOffset f) &&& fieldMask f

/-- `FrameSet(F, FIELD, v)` (20_memory.md R54). -/
def frameSet (F : Frame) (f : FrameField) (v : Byte) : Frame :=
  F.set (fieldByte f) ((F[fieldByte f] &&& ~~~(fieldMask f <<< fieldOffset f)) ||| (v <<< fieldOffset f))

/-- The frame of eight zero bytes. -/
def zeroFrame : Frame := Vector.replicate 8 0#8

/-! ### Field codes (30_encoding.md R74 to R76, R78) -/

/-- A one-bit field's value. -/
def flagCode (b : Bool) : Byte := if b then 1#8 else 0#8

/-- `ModeCode` (R74); OFF has no code of its own and reads as the power-off value 0. -/
def modeCode : Mode → Byte
  | .auto => 0#8
  | .cool => 1#8
  | .dry => 2#8
  | .fanOnly => 3#8
  | .heat => 4#8
  | .off => 0#8

/-- The mode of a `MODE` field; any other value is `UnknownMode` (R74, 41_frame_codec.md R133). -/
def modeOfCode (v : Byte) : Option Mode :=
  match v.toNat with
  | 0 => some .auto
  | 1 => some .cool
  | 2 => some .dry
  | 3 => some .fanOnly
  | 4 => some .heat
  | _ => none

/-- `FanCode` (R75, 41_frame_codec.md R123). -/
def fanCode : FanArg → Byte
  | .speed .auto => 0#8
  | .speed .low => 1#8
  | .speed .medium => 2#8
  | .speed .high => 3#8
  | .absent => 0#8

/-- `FanOf`, with the default arm that the 2-bit field never reaches (41_frame_codec.md R135). -/
def fanOfCode (v : Byte) : Fan :=
  match v.toNat with
  | 0 => .auto
  | 1 => .low
  | 2 => .medium
  | 3 => .high
  | _ => .auto

/-- The swing of the (vertical, horizontal) pair (41_frame_codec.md R136). -/
def swingOfPair (v h : Bool) : Swing :=
  if v && h then .both else if v then .vertical else if h then .horizontal else .off

/-! ### Pulse pairs (44_pulse_decoder.md R181, R182) -/

/-- `Match(d, nom)` with tolerance `tol` percent, exact on naturals, both bounds inclusive (R181). -/
def durMatch (tol : Nat) (d nom : Dur) : Bool :=
  decide (100 * d.toNat ≥ nom.toNat * (100 - tol)) && decide (100 * d.toNat ≤ nom.toNat * (100 + tol))

/-- `Pair(P, i, m, s)`: false where an entry is missing or has the wrong level (R182). -/
def pairAt (tol : Nat) (P : PulseSeq) (i : Nat) (m s : Dur) : Bool :=
  match P[i]?, P[i + 1]? with
  | some a, some b =>
    decide (a.level = .mark) && durMatch tol a.dur m && decide (b.level = .space) && durMatch tol b.dur s
  | _, _ => false

/-- Every duration of the profile is above 0 (42_timing_profile.md R153). -/
def profileLegal (p : TimingProfile) : Bool :=
  decide (p.headerMark ≠ 0#32) && decide (p.headerSpace ≠ 0#32) && decide (p.bitMark ≠ 0#32) &&
    decide (p.oneSpace ≠ 0#32) && decide (p.zeroSpace ≠ 0#32) && decide (p.messageSpace ≠ 0#32)

end Sys2Proof.Machine
end

