-- ==== Sys2Proof/Machine/Flags.lean ====
section
/-! DEFINITION. The `STATUS` register: its fields (10_state.md R25), the error codes (60_exceptions.md R231, R232), and the
one status flag `CSUM_WARN` (10_state.md R33). -/

namespace Sys2Proof.Machine

/-- `STATUS.ERR`, bits 3:0. -/
def statusErr (w : StatusWord) : BitVec 4 := w.extractLsb' 0 4

/-- `STATUS.CSUM_WARN`, bit 4. -/
def statusWarn (w : StatusWord) : Bool := w.getLsbD 4

/-- `STATUS.ERR_BYTE`, bits 7:5. -/
def statusErrByte (w : StatusWord) : BitVec 3 := w.extractLsb' 5 3

/-- `STATUS.ERR_BIT`, bits 10:8. -/
def statusErrBit (w : StatusWord) : BitVec 3 := w.extractLsb' 8 3

/-- `STATUS.ERR_A`, bits 15:12. -/
def statusErrA (w : StatusWord) : BitVec 4 := w.extractLsb' 12 4

/-- `STATUS.ERR_B`, bits 19:16. -/
def statusErrB (w : StatusWord) : BitVec 4 := w.extractLsb' 16 4

/-- A `STATUS` word; bits 11 and 31:20 read 0 (10_state.md R25). -/
def statusWord (err : BitVec 4) (warn : Bool) (errByte errBit : BitVec 3) (errA errB : BitVec 4) : StatusWord :=
  BitVec.ofNat 32 (err.toNat + warn.toNat * 2 ^ 4 + errByte.toNat * 2 ^ 5 + errBit.toNat * 2 ^ 8 + errA.toNat * 2 ^ 12 +
    errB.toNat * 2 ^ 16)

/-- The error code in `STATUS.ERR` (60_exceptions.md R231). -/
def errorCode : DecodeError → BitVec 4
  | .tooShort => 1#4
  | .tooLong => 2#4
  | .headerMismatch => 3#4
  | .bitDecode _ _ => 4#4
  | .footerMismatch => 5#4
  | .messageSpaceMismatch => 6#4
  | .unknownMode _ => 7#4
  | .checksumMismatch _ _ => 8#4

/-- `ERR_BYTE` of an error: the byte index of a `BitDecodeError`, else 0 (10_state.md R25). -/
def errorByteField : DecodeError → BitVec 3
  | .bitDecode b _ => BitVec.ofFin b
  | .tooShort | .tooLong | .headerMismatch | .footerMismatch | .messageSpaceMismatch | .unknownMode _
  | .checksumMismatch _ _ => 0#3

/-- `ERR_BIT` of an error: the bit index of a `BitDecodeError`, else 0 (R25). -/
def errorBitField : DecodeError → BitVec 3
  | .bitDecode _ k => BitVec.ofFin k
  | .tooShort | .tooLong | .headerMismatch | .footerMismatch | .messageSpaceMismatch | .unknownMode _
  | .checksumMismatch _ _ => 0#3

/-- `ERR_A` of an error: the raw mode of `UnknownMode`, `expected` of `ChecksumMismatch`, else 0 (R25). -/
def errorFieldA : DecodeError → BitVec 4
  | .unknownMode raw => raw.setWidth 4
  | .checksumMismatch expected _ => expected
  | .tooShort | .tooLong | .headerMismatch | .bitDecode _ _ | .footerMismatch | .messageSpaceMismatch => 0#4

/-- `ERR_B` of an error: `actual` of `ChecksumMismatch`, else 0 (R25). -/
def errorFieldB : DecodeError → BitVec 4
  | .checksumMismatch _ actual => actual
  | .tooShort | .tooLong | .headerMismatch | .bitDecode _ _ | .footerMismatch | .messageSpaceMismatch
  | .unknownMode _ => 0#4

/-- The `STATUS` word of a successful decode (41_frame_codec.md R139, 44_pulse_decoder.md R192). -/
def okStatus (warn : Bool) : StatusWord := statusWord 0#4 warn 0#3 0#3 0#4 0#4

/-- The `STATUS` word of an error, with the values it records (60_exceptions.md R232). -/
def errorStatus (e : DecodeError) (warn : Bool) : StatusWord :=
  statusWord (errorCode e) warn (errorByteField e) (errorBitField e) (errorFieldA e) (errorFieldB e)

/-- `CSUM_WARN`: the checksum disagreed and `CFG.STRICT = 0`, so decoding went on (10_state.md R33). -/
def csumWarn (computed sum : BitVec 4) (strict : Bool) : Bool := decide (computed ≠ sum) && !strict

end Sys2Proof.Machine
end

