-- ==== Sys2Proof/Machine/Ops.lean ====
section
/-! DEFINITION. The shared operations of the commands: ending a command with its outputs (10_state.md R28), ending it with an
error, which is what this block has in place of an exception (60_exceptions.md R234, R235: no trap, nothing saved, no return),
and the reset input (70_reset_and_hazards.md R260). -/

namespace Sys2Proof.Machine

/-- The outcome of one command or one step. -/
abbrev StepOutcome := Host.Outcome State Fault Refusal

/-- A command ends: `named` writes the output ports the command names, every other output port is left undefined
(10_state.md R28; log 2). -/
def complete (s : State) (named : OutPorts → OutPorts) : State :=
  { s with out := named (OutPorts.undefined s.freeCtr), freeCtr := s.freeCtr + 1 }

/-- A command ends with an error: `Err(e)` on `RESULT`, `STATUS` written whole, no other register (60_exceptions.md R234,
R236). `named` writes the ports the command had written before the error. -/
def endWithError (e : DecodeError) (warn : Bool) (named : OutPorts → OutPorts) (s : State) : State :=
  complete { s with status := errorStatus e warn } fun o => { named o with result := .err e }

/-- The reset input: every register in its reset state; the output ports hold no defined value
(70_reset_and_hazards.md R260, R261; log 14). -/
def assertReset (s : State) : State :=
  { s with
    cfg := CfgReg.reset, climate := climateReset, status := 0#32,
    out := OutPorts.undefined s.freeCtr, freeCtr := s.freeCtr + 1 }

/-- The refusal of a word that is no command (60_exceptions.md R238). -/
def badWordRefusal : BadWord → Refusal
  | .illegalCommand => .illegalCommand
  | .modelReserved => .modelReserved

end Sys2Proof.Machine
end

