-- ==== Sys2Proof/Machine/Control.lean ====
section
/-! DEFINITION. The control commands (45_control.md): `CFG`, `SETST`, `GETST`. -/

namespace Sys2Proof.Machine

/-- A command that names no output port ends. -/
def completeSilent (s : State) : State := complete s id

/-- `CFG MODEL, value`: the code check comes before the write-once check (R210). -/
def execCfgModel (value : Byte) (s : State) : StepOutcome :=
  match modelOf value.toNat with
  | none => .refused .modelReserved
  | some m =>
    match s.cfg.model with
    | some _ => .refused .modelRewrite
    | none => .next (completeSilent { s with cfg := { s.cfg with model := some m } })

/-- `CFG STRICT, value` (R210). -/
def execCfgStrict (value : Byte) (s : State) : StepOutcome :=
  if value.toNat > 1 then .refused .illegalCommand
  else .next (completeSilent { s with cfg := { s.cfg with strict := some (decide (value = 1#8)) } })

/-- `CFG WIFI, value` (R210). -/
def execCfgWifi (value : Byte) (s : State) : StepOutcome :=
  if value.toNat > 1 then .refused .illegalCommand
  else .next (completeSilent { s with cfg := { s.cfg with wifi := some (decide (value = 1#8)) } })

/-- `CFG REPEAT, value` (R210). -/
def execCfgRepeat (value : Byte) (s : State) : StepOutcome :=
  if value = 0#8 then .refused .repeatZero
  else .next (completeSilent { s with cfg := { s.cfg with repeats := some value } })

/-- `SETST`'s check of a command (R213, 10_state.md R30). -/
def setstLegal (c : ClimateCommand) : Bool :=
  decide (c.fan ≠ .absent) && decide (16 ≤ c.temp.toNat ∧ c.temp.toNat ≤ 31) &&
    decide (c.power = .on ↔ c.mode ≠ .off)

/-- `SETST` (R213). `CMD_IN` is read first (log 9). -/
def execSetst (s : State) : StepOutcome :=
  match unpackCommand s.inp.cmdIn with
  | none => .refused .badCommandWord
  | some c =>
    if setstLegal c = false then .refused .stateIllFormed
    else .next (completeSilent { s with climate := recordOf c })

/-- Every field of the record holds a value. -/
def recordWritten (r : ClimateRecord) : Bool :=
  r.power.isSome && r.mode.isSome && r.temp.isSome && r.fan.isSome && r.swing.isSome && r.preset.isSome

/-- `GETST`: "if any field of STATE = ⊥: refuse(StateUnwritten)" (R212; 10_state.md R29). -/
def execGetst (s : State) : StepOutcome :=
  if recordWritten s.climate = false then .refused .stateUnwritten
  else .next (complete s fun o => { o with cmdOut := s.climate })

end Sys2Proof.Machine
end

