-- ==== Sys2Proof/Machine/Checksum.lean ====
section
/-! DEFINITION. The checksum unit (40_checksum.md): the function of R110 and `CSUM`. -/

namespace Sys2Proof.Machine

/-- The accumulator of R110, a natural number (R112). -/
def checksumAcc (F : Frame) : Nat :=
  10 + (F[0].toNat % 16) + (F[1].toNat % 16) + (F[2].toNat % 16) + (F[3].toNat % 16) +
    (F[4].toNat / 16) + (F[5].toNat / 16) + (F[6].toNat / 16)

/-- `checksum(F)`: the accumulator mod 16 (R110). -/
def checksum (F : Frame) : BitVec 4 := BitVec.ofNat 4 (checksumAcc F)

/-- The `SUM` field as 4 bits (30_encoding.md R79). -/
def sumField (F : Frame) : BitVec 4 := (frameGet F .sum).setWidth 4

/-- `CSUM` (R111). -/
def execCsum (s : State) : StepOutcome :=
  .next (complete s fun o => { o with csumOut := checksum s.inp.frameIn })

end Sys2Proof.Machine
end

