-- ==== Sys2Proof/Machine/FrameCodec.lean ====
section
/-! DEFINITION. The state frame codec (41_frame_codec.md): `PACK` and `UNPACK`. -/

namespace Sys2Proof.Machine

/-- `MODEL_FLAG` is 1 for YAW1F and YAC1FB9 (R126). -/
def modelFlag : Model → Bool
  | .yaw1f | .yac1fb9 => true
  | .generic | .ybofb | .yt1f => false

/-- `swing` is VERTICAL or BOTH (R125). -/
def swingsVertically : Swing → Bool
  | .vertical | .both => true
  | .off | .horizontal => false

/-- `swing` is HORIZONTAL or BOTH (R125). -/
def swingsHorizontally : Swing → Bool
  | .horizontal | .both => true
  | .off | .vertical => false

/-- Every field of a packed frame but `SUM`, in the order of R121. -/
def packUnsummed (c : ClimateCommand) (model : Model) (wifi : Bool) : Frame :=
  let F := zeroFrame
  let F := frameSet F .power (flagCode (c.power = .on))
  let F := frameSet F .mode (if c.power = .off then 0#8 else modeCode c.mode)
  let F := frameSet F .fan (fanCode c.fan)
  let F := frameSet F .temp (BitVec.ofNat 8 (c.temp.toNat - 16))
  let F := frameSet F .swingAuto (flagCode (c.swing ≠ .off))
  let F := frameSet F .swingV (flagCode (swingsVertically c.swing))
  let F := frameSet F .swingH (flagCode (swingsHorizontally c.swing))
  let F := frameSet F .sleep (flagCode (c.preset = .sleep))
  let F := frameSet F .modelFlag (flagCode (modelFlag model))
  let F := frameSet F .wifi (flagCode wifi)
  let F := frameSet F .marker1 0b0101#8
  let F := frameSet F .marker2 0b100#8
  frameSet F .light 1#8

/-- The packed frame: `SUM` is computed after all other fields are set (R121, R126). -/
def packFrame (c : ClimateCommand) (model : Model) (wifi : Bool) : Frame :=
  let F := packUnsummed c model wifi
  frameSet F .sum ((checksum F).setWidth 8)

/-- `PACK` up to its result: the frame, or the refusal (R121, R127). `CMD_IN` is read first (log 9). A ⊥ field of
`CFG` is refused: "if CFG.MODEL = ⊥ or CFG.WIFI = ⊥: refuse(CfgUnwritten)" (R121; 10_state.md R29). -/
def packResult (s : State) : Except Refusal Frame :=
  match unpackCommand s.inp.cmdIn with
  | none => .error .badCommandWord
  | some c =>
    match s.cfg.model, s.cfg.wifi with
    | some model, some wifi =>
      if ¬(16 ≤ c.temp.toNat ∧ c.temp.toNat ≤ 30) then .error .tempOutOfRange
      else if c.power = .on ∧ c.mode = .off then .error .powerOnModeOff
      else .ok (packFrame c model wifi)
    | _, _ => .error .cfgUnwritten

/-- `PACK` (R120). -/
def execPack (s : State) : StepOutcome :=
  match packResult s with
  | .error r => .refused r
  | .ok F => .next (complete s fun o => { o with frameOut := F })

/-- The record of a power-off frame: the prior record with power and mode OFF, ⊥ fields staying ⊥ (R132). -/
def powerOffRecord (prior : ClimateRecord) : ClimateRecord :=
  { prior with power := some .off, mode := some .off }

/-- The record of a power-on frame whose `MODE` stands for `mode` (R133 to R137). -/
def powerOnRecord (F : Frame) (mode : Mode) : ClimateRecord where
  power  := some .on
  mode   := some mode
  temp   := some (BitVec.ofNat 5 ((frameGet F .temp).toNat + 16))
  fan    := some (fanOfCode (frameGet F .fan))
  swing  := some (swingOfPair (frameGet F .swingV = 1#8) (frameGet F .swingH = 1#8))
  preset := some (if frameGet F .sleep = 1#8 then .sleep else .none)

/-- `CSUM_WARN` of a frame under a strictness (R131, R139). -/
def frameWarn (F : Frame) (strict : Bool) : Bool := csumWarn (checksum F) (sumField F) strict

/-- `Unpack(F, strict, prior)` (R139): the checksum first, then the power bit, then the mode. -/
def unpackFrame (F : Frame) (strict : Bool) (prior : ClimateRecord) : Except DecodeError ClimateRecord :=
  if checksum F ≠ sumField F ∧ strict = true then .error (.checksumMismatch (checksum F) (sumField F))
  else if frameGet F .power = 0#8 then .ok (powerOffRecord prior)
  else
    match modeOfCode (frameGet F .mode) with
    | none => .error (.unknownMode ((frameGet F .mode).setWidth 3))
    | some mode => .ok (powerOnRecord F mode)

/-- A decode of a frame succeeds: `STATUS`, `CMD_OUT` and `Ok(r)` (R139). `named` writes the ports written before. -/
def endWithRecord (r : ClimateRecord) (warn : Bool) (named : OutPorts → OutPorts) (s : State) : State :=
  complete { s with status := okStatus warn } fun o => { named o with cmdOut := r, result := .okRecord r }

/-- `UNPACK` (R130, R139, R140). It never writes `STATE`. A ⊥ `CFG.STRICT` is refused: "if CFG.STRICT = ⊥: refuse(CfgUnwritten)"
(R139; 10_state.md R29). -/
def execUnpack (s : State) : StepOutcome :=
  match s.cfg.strict with
  | none => .refused .cfgUnwritten
  | some strict =>
    match unpackFrame s.inp.frameIn strict s.climate with
    | .error e => .next (endWithError e (frameWarn s.inp.frameIn strict) id s)
    | .ok r => .next (endWithRecord r (frameWarn s.inp.frameIn strict) id s)

end Sys2Proof.Machine
end

