-- ==== Sys2Proof/Machine/Profile.lean ====
section
/-! DEFINITION. The timing profile selector (42_timing_profile.md): the fixed table and `RESOLVE`. -/

namespace Sys2Proof.Machine

/-- The profile table, durations in microseconds (R150). -/
def profileOf : Model → TimingProfile
  | .generic => ⟨9000#32, 4000#32, 620#32, 1600#32, 540#32, 19000#32⟩
  | .yaw1f => ⟨6000#32, 3000#32, 650#32, 1600#32, 540#32, 19000#32⟩
  | .ybofb => ⟨6000#32, 3000#32, 650#32, 1600#32, 540#32, 19000#32⟩
  | .yac1fb9 => ⟨9000#32, 4500#32, 620#32, 1600#32, 540#32, 19800#32⟩
  | .yt1f => ⟨9000#32, 4000#32, 620#32, 1600#32, 540#32, 19000#32⟩

/-- `RESOLVE model`: codes 5..7 are refused; `CFG.MODEL` is not read (R151). -/
def execResolve (model : BitVec 3) (s : State) : StepOutcome :=
  match modelOf model.toNat with
  | none => .refused .modelReserved
  | some m => .next (complete s fun o => { o with profileOut := profileOf m })

end Sys2Proof.Machine
end

