-- ==== Sys2Proof/Machine/PulseDecoder.lean ====
section
/-! DEFINITION. The pulse decoder (44_pulse_decoder.md): its stages, `DECP` and `RX`. The functions take the tolerance as an
argument; the commands give them `Config.tolPct`. -/

namespace Sys2Proof.Machine

/-- One bit cell at cursor `i`: the ONE pair is tried first, then the ZERO pair; none is neither (R185). -/
def readCell (tol : Nat) (p : TimingProfile) (P : PulseSeq) (i : Nat) : Option Bool :=
  if pairAt tol P i p.bitMark p.oneSpace then some true
  else if pairAt tol P i p.bitMark p.zeroSpace then some false
  else none

/-- The bits `ks` of a byte read from cursor `i` on into `acc`; an error is the bit whose cell failed (R185, R191). -/
def readBits (tol : Nat) (p : TimingProfile) (P : PulseSeq) : Nat → List (Fin 8) → Byte → Except (Fin 8) Byte
  | _, [], acc => .ok acc
  | i, k :: ks, acc =>
    match readCell tol p P i with
    | some true => readBits tol p P (i + 2) ks (acc ||| (1#8 <<< k.val))
    | some false => readBits tol p P (i + 2) ks acc
    | none => .error k

/-- The bytes `bs` of the frame read from cursor `i` on, 16 entries each (R185, R188). -/
def readBytes (tol : Nat) (p : TimingProfile) (P : PulseSeq) : Nat → List (Fin 8) → Frame → Except DecodeError Frame
  | _, [], F => .ok F
  | i, b :: bs, F =>
    match readBits tol p P i [0, 1, 2, 3, 4, 5, 6, 7] 0#8 with
    | .ok v => readBytes tol p P (i + 16) bs (F.set b v)
    | .error k => .error (.bitDecode b k)

/-- Stage 4: the footer at 66, 68, 70 must be `0b010`; an undecodable cell is the same error (R186). -/
def footerMatches (tol : Nat) (p : TimingProfile) (P : PulseSeq) : Bool :=
  match readBits tol p P 66 [0, 1, 2] 0#8 with
  | .ok f => decide (f = 0b010#8)
  | .error _ => false

/-- `DecodePulses(P, p)`: stages 1 to 6 in order, the first failure ends it (R180, R191). -/
def decodePulses (tol : Nat) (p : TimingProfile) (P : PulseSeq) : Except DecodeError Frame :=
  if P.length < Config.pulseMin then .error .tooShort
  else if P.length > Config.pulseMax then .error .tooLong
  else if pairAt tol P 0 p.headerMark p.headerSpace = false then .error .headerMismatch
  else
    match readBytes tol p P 2 [0, 1, 2, 3] zeroFrame with
    | .error e => .error e
    | .ok F =>
      if footerMatches tol p P = false then .error .footerMismatch
      else if pairAt tol P 72 p.bitMark p.messageSpace = false then .error .messageSpaceMismatch
      else readBytes tol p P 74 [4, 5, 6, 7] F

/-- `DECP` (R190, R192): it does not compare the checksum, so `CSUM_WARN` is 0. -/
def execDecp (s : State) : StepOutcome :=
  if profileLegal s.inp.profileIn = false then .refused .badProfile
  else
    match decodePulses Config.tolPct s.inp.profileIn s.inp.pulseIn with
    | .error e => .next (endWithError e false id s)
    | .ok F =>
      .next (complete { s with status := okStatus false } fun o => { o with frameOut := F, result := .okFrame F })

/-- `RX` (R195 to R197): the pulse stages, then the frame codec; `STATE` is committed on success only.
"if CFG.MODEL = ⊥ or CFG.STRICT = ⊥: refuse(CfgUnwritten)" (R195; 10_state.md R29). -/
def execRx (s : State) : StepOutcome :=
  match s.cfg.model, s.cfg.strict with
  | some model, some strict =>
    match decodePulses Config.tolPct (profileOf model) s.inp.pulseIn with
    | .error e => .next (endWithError e false id s)
    | .ok F =>
      match unpackFrame F strict s.climate with
      | .error e => .next (endWithError e (frameWarn F strict) (fun o => { o with frameOut := F }) s)
      | .ok r =>
        .next (endWithRecord r (frameWarn F strict) (fun o => { o with frameOut := F }) { s with climate := r })
  | _, _ => .refused .cfgUnwritten

end Sys2Proof.Machine
end

