-- ==== Sys2Proof/Machine/PulseEncoder.lean ====
section
/-! DEFINITION. The pulse encoder (43_pulse_encoder.md): one repetition, `ENCP` and `TX`. -/

namespace Sys2Proof.Machine

/-- A mark of `m` and then a space of `s`. -/
def pulsePair (m s : Dur) : PulseSeq := [⟨.mark, m⟩, ⟨.space, s⟩]

/-- `Bit(v, p)` (R160). -/
def bitCell (p : TimingProfile) (v : Bool) : PulseSeq := pulsePair p.bitMark (if v then p.oneSpace else p.zeroSpace)

/-- The MSG cell: its space is `message_space` (30_encoding.md R81). -/
def messageCell (p : TimingProfile) : PulseSeq := pulsePair p.bitMark p.messageSpace

/-- The bits `ks` of a byte, each as a cell, in the order listed. -/
def byteCells (p : TimingProfile) (b : Byte) : List Nat → PulseSeq
  | [] => []
  | k :: ks => bitCell p (b.getLsbD k) ++ byteCells p b ks

/-- The bit positions of a byte, least-significant first (20_memory.md R52). -/
def lsbFirst : List Nat := [0, 1, 2, 3, 4, 5, 6, 7]

/-- The bytes `bs` of the frame, each least-significant bit first. -/
def frameCells (p : TimingProfile) (F : Frame) : List (Fin 8) → PulseSeq
  | [] => []
  | b :: bs => byteCells p F[b] lsbFirst ++ frameCells p F bs

/-- The footer `0b010`, three cells, least-significant bit first (R160 step 3). -/
def footerCells (p : TimingProfile) : PulseSeq := byteCells p 0b010#8 [0, 1, 2]

/-- One repetition (R160, 30_encoding.md R82). -/
def repetition (p : TimingProfile) (F : Frame) : PulseSeq :=
  pulsePair p.headerMark p.headerSpace ++ frameCells p F [0, 1, 2, 3] ++ footerCells p ++ messageCell p ++
    frameCells p F [4, 5, 6, 7] ++ messageCell p

/-- `count` repetitions, nothing between them (R161). -/
def repetitions (p : TimingProfile) (F : Frame) : Nat → PulseSeq
  | 0 => []
  | n + 1 => repetition p F ++ repetitions p F n

/-- `ENCP` (R162). -/
def execEncp (count : Byte) (s : State) : StepOutcome :=
  if count = 0#8 then .refused .repeatZero
  else if profileLegal s.inp.profileIn = false then .refused .badProfile
  else
    .next (complete s fun o =>
      { o with
        pulseOut := repetitions s.inp.profileIn s.inp.frameIn count.toNat
        carrierOut := Config.carrierHz })

/-- `TX` (R163): the `CFG` check, then `PACK` with its refusals (log 9), then the profile and the repetitions.
"if CFG.MODEL = ⊥ or CFG.WIFI = ⊥ or CFG.REPEAT = ⊥: refuse(CfgUnwritten)" (R163; 10_state.md R29). -/
def execTx (s : State) : StepOutcome :=
  match s.cfg.model, s.cfg.wifi, s.cfg.repeats with
  | some model, some _, some count =>
    match packResult s with
    | .error r => .refused r
    | .ok F =>
      .next (complete s fun o =>
        { o with
          frameOut := F
          pulseOut := repetitions (profileOf model) F count.toNat
          carrierOut := Config.carrierHz })
  | _, _, _ => .refused .cfgUnwritten

end Sys2Proof.Machine
end

