-- ==== Sys2Proof/Machine/Dispatch.lean ====
section
/-! DEFINITION. What each command does: one arm per constructor, one call of its meaning. -/

namespace Sys2Proof.Machine

def exec (i : Instr) (s : State) : Host.Outcome State Fault Refusal :=
  match i with
  | .csum => Sys2Proof.Machine.execCsum s
  | .pack => Sys2Proof.Machine.execPack s
  | .unpack => Sys2Proof.Machine.execUnpack s
  | .resolve model => Sys2Proof.Machine.execResolve model s
  | .encp count => Sys2Proof.Machine.execEncp count s
  | .decp => Sys2Proof.Machine.execDecp s
  | .tx => Sys2Proof.Machine.execTx s
  | .rx => Sys2Proof.Machine.execRx s
  | .cfgModel value => Sys2Proof.Machine.execCfgModel value s
  | .cfgStrict value => Sys2Proof.Machine.execCfgStrict value s
  | .cfgWifi value => Sys2Proof.Machine.execCfgWifi value s
  | .cfgRepeat value => Sys2Proof.Machine.execCfgRepeat value s
  | .setst => Sys2Proof.Machine.execSetst s
  | .getst => Sys2Proof.Machine.execGetst s

end Sys2Proof.Machine
end

