-- ==== Sys2Proof/Machine/HostPort.lean ====
section
/-! DEFINITION. The host's side of a step: how it sets the input ports for a command and presents the command word
(70_reset_and_hazards.md R264, 30_encoding.md R91), and one whole transaction. -/

namespace Sys2Proof.Machine

/-- The value that a `PortSource` gives when the output port of the same type holds `out`. -/
def portValue {α : Type} (out : α) : PortSource α → α
  | .value a => a
  | .copyOut => out

/-- The sequence that a `PulseSource` gives when `PULSE_OUT` holds `out`. -/
def pulseValue (out : PulseSeq) : PulseSource → PulseSeq
  | .capture p => p
  | .copyOut start count => (out.drop start).take count

/-- The 16 lines of `CMD_OUT` as a reader sees them (30_encoding.md R84; log 13). -/
def cmdOutLines (s : State) : CmdWord := recordLines (Config.freeCmdBits s.freeCtr) s.out.cmdOut

/-- The input ports as the host sets them for transaction `t` (70_reset_and_hazards.md R264, 30_encoding.md R91). -/
def drivenPorts (s : State) (t : Transaction) : InPorts where
  cmdw      := t.cmdw
  cmdIn     := portValue (cmdOutLines s) t.cmdIn
  frameIn   := portValue s.out.frameOut t.frameIn
  pulseIn   := pulseValue s.out.pulseOut t.pulseIn
  profileIn := portValue s.out.profileOut t.profileIn

/-- The host sets the input ports for `t` and presents its command word, with `rest` left to do afterwards. -/
def present (t : Transaction) (rest : List HostRequest) (s : State) : State :=
  { s with inp := drivenPorts s t, host := rest }

/-- What the host may do after a refusal, which took no step (60_exceptions.md R237; log 12): drop the refused request. -/
def dropRequest (s : State) : State := { s with host := s.host.tail }

/-- One transaction: the host sets the ports and presents `CMDW`; the command completes at once, or is refused. DESIGN CHOICE: a word
that is no command is refused before any check of the command's inputs and registers (log 11). -/
def runTransaction (t : Transaction) (rest : List HostRequest) (s : State) : StepOutcome :=
  match decode t.cmdw with
  | .ok i => exec i (present t rest s)
  | .error e => .refused (badWordRefusal e)

/-- What the host sets on the input ports when it presents a bare command word: a legal value for every port (log 25). -/
def bareTransaction (w : CmdWord) : Transaction where
  cmdw      := w
  cmdIn     := .value 0x3781#16
  frameIn   := .value zeroFrame
  pulseIn   := .capture []
  profileIn := .value (profileOf .generic)

/-- The host does `r` next, before what it had to do. -/
def enqueueFirst (r : HostRequest) (s : State) : State := { s with host := r :: s.host }

end Sys2Proof.Machine
end

