-- ==== Sys2Proof/Machine/Step.lean ====
section
/-! DEFINITION. One step: one request of the host (70_reset_and_hazards.md R260, R264). The block fetches nothing
(10_state.md R22); the command word is the one the host presents. -/

namespace Sys2Proof.Machine

/-- One step: the host's next request; with none, the block holds its registers (60_exceptions.md R245; log 1). -/
def step (s : State) : Host.Outcome State Fault Refusal :=
  match s.host with
  | [] => .next s
  | .reset :: rest => .next (assertReset { s with host := rest })
  | .command t :: rest => runTransaction t rest s

/-- The host presents the word next (log 25). -/
def State.withFetchWord (s : State) (nbits w : Nat) : State :=
  enqueueFirst (.command (bareTransaction (tableWord nbits w))) s

end Sys2Proof.Machine
end

