-- ==== Sys2Proof/Machine/Assembler.lean ====
section
/-! DEFINITION. The assembler's pseudo-commands (30_encoding.md R91) and the text of a command (R90). The block knows neither:
they are the host's, and expand to command words. -/

namespace Sys2Proof.Machine

/-- A pseudo-command (R91). -/
inductive PseudoCommand where
  /-- `CONFIGURE m, s, w, r`. -/
  | configure (model strict wifi repeats : Byte)
  /-- `ENCODE_FOR m, n`. -/
  | encodeFor (model : BitVec 3) (count : Byte)
  /-- `DECODE_FOR m`. -/
  | decodeFor (model : BitVec 3)
deriving DecidableEq, Repr

/-- The commands a pseudo-command expands to, in order (R91). -/
def expandPseudo : PseudoCommand → List Instr
  | .configure model strict wifi repeats => [.cfgModel model, .cfgStrict strict, .cfgWifi wifi, .cfgRepeat repeats]
  | .encodeFor model count => [.resolve model, .encp count]
  | .decodeFor model => [.resolve model, .decp]

/-- One command issued with the ports of `t`. -/
def issue (t : Transaction) (i : Instr) : HostRequest := .command { t with cmdw := encode i }

/-- What the host does for a pseudo-command, its ports otherwise as `t` has them: between the two commands of the last two it
copies `PROFILE_OUT` to `PROFILE_IN` (R91). -/
def pseudoRequests (t : Transaction) (p : PseudoCommand) : List HostRequest :=
  match p with
  | .configure _ _ _ _ => (expandPseudo p).map (issue t)
  | .encodeFor model count => [issue t (.resolve model), issue { t with profileIn := .copyOut } (.encp count)]
  | .decodeFor model => [issue t (.resolve model), issue { t with profileIn := .copyOut } .decp]

/-- The model operand as R90 writes it: a name, or the number of a reserved code. -/
def modelText (n : Nat) : String :=
  match modelOf n with
  | some .generic => "GENERIC"
  | some .yaw1f => "YAW1F"
  | some .ybofb => "YBOFB"
  | some .yac1fb9 => "YAC1FB9"
  | some .yt1f => "YT1F"
  | none => toString n

/-- The text of a command without its port operands (R90). -/
def commandText : Instr → String
  | .csum => "CSUM"
  | .pack => "PACK"
  | .unpack => "UNPACK"
  | .resolve model => "RESOLVE " ++ modelText model.toNat
  | .encp count => "ENCP " ++ toString count.toNat
  | .decp => "DECP"
  | .tx => "TX"
  | .rx => "RX"
  | .cfgModel value => "CFG MODEL, " ++ modelText value.toNat
  | .cfgStrict value => "CFG STRICT, " ++ toString value.toNat
  | .cfgWifi value => "CFG WIFI, " ++ toString value.toNat
  | .cfgRepeat value => "CFG REPEAT, " ++ toString value.toNat
  | .setst => "SETST"
  | .getst => "GETST"

end Sys2Proof.Machine
end

