-- ==== Sys2Proof/Safety.lean ====
section
/-! DEFINITION. The terms that claims use: what a command keeps, the invariant of the state, and the spec's tables read a
second time in numbers (bits of a byte, positions of pulse entries, the columns of the tables), so that a claim does not
repeat the model's own definitions. -/

namespace Sys2Proof.Machine

/-! ### What a command keeps -/

/-- The three registers are unchanged. -/
def registersKept (s t : State) : Prop := t.cfg = s.cfg ∧ t.climate = s.climate ∧ t.status = s.status

/-- What no command touches: the input ports and what the host does next. -/
def inputsKept (s t : State) : Prop := t.inp = s.inp ∧ t.host = s.host

/-! ### The invariant -/

/-- A climate record as `STATE` may hold it: 10_state.md R30 and the range of R24, and the shapes that `SETST` and `RX` leave. -/
structure RecordOk (r : ClimateRecord) : Prop where
  /-- 10_state.md R30. -/
  onIffNotOff : ∀ p m, r.power = some p → r.mode = some m → (p = .on ↔ m ≠ .off)
  /-- 10_state.md R24: 16..31. -/
  tempRange : ∀ t, r.temp = some t → 16 ≤ t.toNat
  /-- Power and mode are written together. -/
  powerWithMode : r.power.isSome = r.mode.isSome
  /-- The four other fields are written together. -/
  restTogether : r.fan.isSome = r.temp.isSome ∧ r.swing.isSome = r.temp.isSome ∧ r.preset.isSome = r.temp.isSome
  /-- They are never written without power. -/
  restWithPower : r.temp.isSome = true → r.power.isSome = true
  /-- A power-on record is whole. -/
  onIsWhole : r.power = some .on → r.temp.isSome = true

/-- A `STATUS` word as 10_state.md R25 and 60_exceptions.md R231, R232 allow it. -/
structure StatusOk (w : StatusWord) : Prop where
  /-- Bits 11 and 31:20 read 0. -/
  reserved : w.toNat < 2 ^ 20 ∧ w.toNat / 2 ^ 11 % 2 = 0
  /-- Codes 9..15 are never written. -/
  code : w.toNat % 16 ≤ 8
  /-- `ERR_BYTE` and `ERR_BIT` are 0 but for `BitDecodeError`. -/
  bitFields : w.toNat % 16 ≠ 4 → w.toNat / 2 ^ 5 % 64 = 0
  /-- `ERR_A` is 0 but for `UnknownMode` and `ChecksumMismatch`. -/
  fieldA : w.toNat % 16 ≠ 7 → w.toNat % 16 ≠ 8 → w.toNat / 2 ^ 12 % 16 = 0
  /-- `UnknownMode` records a reserved code, 5 to 7. -/
  unknownModeA : w.toNat % 16 = 7 → 5 ≤ w.toNat / 2 ^ 12 % 16 ∧ w.toNat / 2 ^ 12 % 16 ≤ 7
  /-- `ERR_B` is 0 but for `ChecksumMismatch`. -/
  fieldB : w.toNat % 16 ≠ 8 → w.toNat / 2 ^ 16 % 16 = 0
  /-- A `ChecksumMismatch` records two values that differ, and no warning. -/
  mismatch : w.toNat % 16 = 8 → w.toNat / 2 ^ 12 % 16 ≠ w.toNat / 2 ^ 16 % 16 ∧ w.toNat / 2 ^ 4 % 2 = 0
  /-- A pulse-stage error never carries the warning. -/
  pulseNoWarn : 1 ≤ w.toNat % 16 → w.toNat % 16 ≤ 6 → w.toNat / 2 ^ 4 % 2 = 0

/-- The invariant of the state. -/
structure StateInv (s : State) : Prop where
  record : RecordOk s.climate
  status : StatusOk s.status
  /-- 10_state.md R23: `CFG.REPEAT` is 1..255. -/
  repeatsPositive : s.cfg.repeats ≠ some 0#8

/-! ### Bits and fields in numbers -/

/-- `b[o+w-1:o]` as a number (00_scope.md R11). -/
def bitsOf (b : Byte) (o w : Nat) : Nat := b.toNat / 2 ^ o % 2 ^ w

/-- Bit `k` of byte `b` of the frame; false outside it. -/
def frameBit (F : Frame) (b k : Nat) : Bool := (F[b]?.getD 0#8).getLsbD k

/-- The frame with bit `k` of byte `b` flipped. -/
def flipBit (F : Frame) (b k : Fin 8) : Frame := F.set b (F[b] ^^^ (1#8 <<< k.val))

/-- The frame is one a decode under this strictness goes on with (41_frame_codec.md R131). -/
def goesOn (F : Frame) (strict : Bool) : Prop := checksum F = sumField F ∨ strict = false

/-- The number of 1 bits of a byte. -/
def byteOnes (b : Byte) : Nat :=
  bitsOf b 0 1 + bitsOf b 1 1 + bitsOf b 2 1 + bitsOf b 3 1 + bitsOf b 4 1 + bitsOf b 5 1 + bitsOf b 6 1 + bitsOf b 7 1

/-- The number of 1 bits of a frame (43_pulse_encoder.md R166). -/
def frameOnes (F : Frame) : Nat :=
  byteOnes F[0] + byteOnes F[1] + byteOnes F[2] + byteOnes F[3] + byteOnes F[4] + byteOnes F[5] + byteOnes F[6] + byteOnes F[7]

/-- The codes of a packed command record in numbers (30_encoding.md R84). -/
def recordCode (c : ClimateCommand) : Nat :=
  (match c.power with | .off => 0 | .on => 1) +
  2 * (match c.mode with | .cool => 0 | .heat => 1 | .auto => 2 | .dry => 3 | .fanOnly => 4 | .off => 5) +
  16 * c.temp.toNat +
  512 * (match c.fan with
    | .speed .auto => 0 | .speed .low => 1 | .speed .medium => 2 | .speed .high => 3 | .absent => 4) +
  4096 * (match c.swing with | .off => 0 | .vertical => 1 | .horizontal => 2 | .both => 3) +
  16384 * (match c.preset with | .none => 0 | .sleep => 1)

/-- A word that `CMD_IN` refuses: bit 15 set, mode code 6 or 7, fan code 5 to 7 (30_encoding.md R84). -/
def badRecordWord (w : CmdWord) : Prop :=
  w.toNat / 2 ^ 15 = 1 ∨ w.toNat / 2 % 8 ≥ 6 ∨ w.toNat / 2 ^ 9 % 8 ≥ 5

/-- The "written by PACK as" column of 30_encoding.md R72; `SUM` is the checksum of the frame itself. -/
def packColumn (c : ClimateCommand) (model : Model) (wifi : Bool) (F : Frame) : FrameField → Nat
  | .mode =>
    match c.power, c.mode with
    | .off, _ => 0
    | .on, .cool => 1
    | .on, .heat => 4
    | .on, .auto => 0
    | .on, .dry => 2
    | .on, .fanOnly => 3
    | .on, .off => 0
  | .power => match c.power with | .off => 0 | .on => 1
  | .fan =>
    match c.fan with
    | .speed .auto => 0 | .speed .low => 1 | .speed .medium => 2 | .speed .high => 3 | .absent => 0
  | .swingAuto => match c.swing with | .off => 0 | .vertical => 1 | .horizontal => 1 | .both => 1
  | .sleep => match c.preset with | .none => 0 | .sleep => 1
  | .temp => c.temp.toNat - 16
  | .light => 1
  | .modelFlag => match model with | .generic => 0 | .yaw1f => 1 | .ybofb => 0 | .yac1fb9 => 1 | .yt1f => 0
  | .marker1 => 5
  | .swingV => match c.swing with | .off => 0 | .vertical => 1 | .horizontal => 0 | .both => 1
  | .swingH => match c.swing with | .off => 0 | .vertical => 0 | .horizontal => 1 | .both => 1
  | .marker2 => 4
  | .wifi => match wifi with | false => 0 | true => 1
  | .sum => (checksum F).toNat
  | .timerHalfHr | .timerTensHr | .timerEn | .timerHours | .turbo | .xfan | .rsvd3 | .rsvd4 | .displayTemp | .ifeel
  | .rsvd5 | .rsvd6 | .rsvd7a | .econo | .rsvd7b => 0

/-- `PACK` accepts the command (41_frame_codec.md R127). -/
def packLegal (c : ClimateCommand) : Prop := 16 ≤ c.temp.toNat ∧ c.temp.toNat ≤ 30 ∧ ¬(c.power = .on ∧ c.mode = .off)

/-- The record that a power-on frame stands for (41_frame_codec.md R133 to R137), read off the bytes by the table of
30_encoding.md R72: `m` is the mode that `MODE` stands for. -/
def decodedRecord (F : Frame) (m : Mode) : ClimateRecord where
  power  := some .on
  mode   := some m
  temp   := some (BitVec.ofNat 5 (bitsOf F[1] 0 4 + 16))
  fan    := some (if bitsOf F[0] 4 2 = 0 then .auto else if bitsOf F[0] 4 2 = 1 then .low
                  else if bitsOf F[0] 4 2 = 2 then .medium else .high)
  swing  := some (if bitsOf F[4] 0 4 = 1 ∧ bitsOf F[4] 4 3 = 1 then .both else if bitsOf F[4] 0 4 = 1 then .vertical
                  else if bitsOf F[4] 4 3 = 1 then .horizontal else .off)
  preset := some (if bitsOf F[0] 7 1 = 1 then .sleep else .none)

/-- The `MODE` codes 0..4 in order (30_encoding.md R74). -/
def modeTable : List Mode := [.auto, .cool, .dry, .fanOnly, .heat]

/-- The record with power and mode OFF, the rest as it was (41_frame_codec.md R132). -/
def turnedOff (r : ClimateRecord) : ClimateRecord := ⟨some .off, some .off, r.temp, r.fan, r.swing, r.preset⟩

/-- `STATUS` after a decode that went on: 0, or `CSUM_WARN` alone (10_state.md R33). -/
def warnWord (F : Frame) : Nat := if checksum F = sumField F then 0 else 16

/-! ### The profile table and the pulse layout in numbers -/

/-- The rows of 42_timing_profile.md R150, by model code. -/
def profileRows : List (List Nat) :=
  [[9000, 4000, 620, 1600, 540, 19000],
   [6000, 3000, 650, 1600, 540, 19000],
   [6000, 3000, 650, 1600, 540, 19000],
   [9000, 4500, 620, 1600, 540, 19800],
   [9000, 4000, 620, 1600, 540, 19000]]

/-- A profile's six durations. -/
def durations (p : TimingProfile) : List Nat :=
  [p.headerMark.toNat, p.headerSpace.toNat, p.bitMark.toNat, p.oneSpace.toNat, p.zeroSpace.toNat, p.messageSpace.toNat]

/-- The pulse symbols (30_encoding.md R81). -/
inductive Symbol where
  | hdr | one | zero | msg
deriving DecidableEq, Repr

/-- The two entries of a symbol (R81). -/
def symbolEntries (p : TimingProfile) : Symbol → Entry × Entry
  | .hdr => (⟨.mark, p.headerMark⟩, ⟨.space, p.headerSpace⟩)
  | .one => (⟨.mark, p.bitMark⟩, ⟨.space, p.oneSpace⟩)
  | .zero => (⟨.mark, p.bitMark⟩, ⟨.space, p.zeroSpace⟩)
  | .msg => (⟨.mark, p.bitMark⟩, ⟨.space, p.messageSpace⟩)

/-- The symbol of one data bit. -/
def dataSymbol (F : Frame) (b k : Nat) : Symbol := if frameBit F b k then .one else .zero

/-- Symbol `n` of a repetition, `n` in 0..69, by its place (30_encoding.md R82). -/
def symbolAt (F : Frame) (n : Nat) : Symbol :=
  if n = 0 then .hdr
  else if n ≤ 32 then dataSymbol F ((n - 1) / 8) ((n - 1) % 8)
  else if n = 34 then .one
  else if n ≤ 35 then .zero
  else if n = 36 then .msg
  else if n ≤ 68 then dataSymbol F (4 + (n - 37) / 8) ((n - 37) % 8)
  else .msg

/-- Entry `j` of the output of the encoder (R82): marks at even places, spaces at odd ones. -/
def entryAt (p : TimingProfile) (F : Frame) (j : Nat) : Entry :=
  if j % 2 = 0 then (symbolEntries p (symbolAt F (j % 140 / 2))).1 else (symbolEntries p (symbolAt F (j % 140 / 2))).2

/-- The place of the pair that carries bit `k` of byte `b` (44_pulse_decoder.md R185, R188). -/
def cellIndex (b k : Nat) : Nat := if b < 4 then 2 + 16 * b + 2 * k else 74 + 16 * (b - 4) + 2 * k

/-- The pair at `i` is the ONE cell. -/
def isOne (tol : Nat) (p : TimingProfile) (P : PulseSeq) (i : Nat) : Prop := pairAt tol P i p.bitMark p.oneSpace = true

/-- The pair at `i` is read as a 0: not the ONE cell, and the ZERO cell (44_pulse_decoder.md R185). -/
def isZero (tol : Nat) (p : TimingProfile) (P : PulseSeq) (i : Nat) : Prop :=
  pairAt tol P i p.bitMark p.oneSpace = false ∧ pairAt tol P i p.bitMark p.zeroSpace = true

/-- The pair at `i` carries the bit `v`. -/
def carries (tol : Nat) (p : TimingProfile) (P : PulseSeq) (i : Nat) (v : Bool) : Prop :=
  if v then isOne tol p P i else isZero tol p P i

/-- The pair at `i` is a bit cell. -/
def isCell (tol : Nat) (p : TimingProfile) (P : PulseSeq) (i : Nat) : Prop := isOne tol p P i ∨ isZero tol p P i

/-- Every cell of the bytes from `lo` on that comes before bit `k` of byte `b` is a bit cell. -/
def cellsBefore (tol : Nat) (p : TimingProfile) (P : PulseSeq) (lo : Nat) (b k : Nat) : Prop :=
  ∀ b' k', lo ≤ b' → k' < 8 → 8 * b' + k' < 8 * b + k → isCell tol p P (cellIndex b' k')

/-- The footer cells carry 0, 1, 0 (R186). -/
def footerReads (tol : Nat) (p : TimingProfile) (P : PulseSeq) : Prop :=
  isZero tol p P 66 ∧ isOne tol p P 68 ∧ isZero tol p P 70

/-- Stages 1 to 6 pass and the cells carry the bits of `F` (R183 to R188). -/
def decodesTo (tol : Nat) (p : TimingProfile) (P : PulseSeq) (F : Frame) : Prop :=
  130 ≤ P.length ∧ P.length ≤ 150 ∧ pairAt tol P 0 p.headerMark p.headerSpace = true ∧
    footerReads tol p P ∧ pairAt tol P 72 p.bitMark p.messageSpace = true ∧
    ∀ b k, b < 8 → k < 8 → carries tol p P (cellIndex b k) (frameBit F b k)

/-- `STATUS` of an error in numbers: `ERR | ERR_BYTE << 5 | ERR_BIT << 8 | ERR_A << 12 | ERR_B << 16` (10_state.md R25,
60_exceptions.md R231, R232). -/
def errorWord : DecodeError → Nat
  | .tooShort => 1
  | .tooLong => 2
  | .headerMismatch => 3
  | .bitDecode b k => 4 + b.val * 2 ^ 5 + k.val * 2 ^ 8
  | .footerMismatch => 5
  | .messageSpaceMismatch => 6
  | .unknownMode raw => 7 + raw.toNat * 2 ^ 12
  | .checksumMismatch expected actual => 8 + expected.toNat * 2 ^ 12 + actual.toNat * 2 ^ 16

/-- An error of the pulse stages. -/
def isPulseError : DecodeError → Prop
  | .tooShort | .tooLong | .headerMismatch | .bitDecode _ _ | .footerMismatch | .messageSpaceMismatch => True
  | .unknownMode _ | .checksumMismatch _ _ => False

/-! ### The command map and the refusals -/

/-- One row of opcode_table.json: match, mask and the command of a word. -/
structure OpcodeRow where
  pattern : CmdWord
  mask    : CmdWord
  command : CmdWord → Instr

/-- The rows of opcode_table.json, in its order (30_encoding.md R86). -/
def opcodeRows : List OpcodeRow :=
  [⟨0x1000#16, 0xFFFF#16, fun _ => .csum⟩,
   ⟨0x2000#16, 0xFFFF#16, fun _ => .pack⟩,
   ⟨0x3000#16, 0xFFFF#16, fun _ => .unpack⟩,
   ⟨0x4000#16, 0xFFF8#16, fun w => .resolve (w.setWidth 3)⟩,
   ⟨0x5000#16, 0xFF00#16, fun w => .encp (w.setWidth 8)⟩,
   ⟨0x6000#16, 0xFFFF#16, fun _ => .decp⟩,
   ⟨0x7000#16, 0xFFFF#16, fun _ => .tx⟩,
   ⟨0x8000#16, 0xFFFF#16, fun _ => .rx⟩,
   ⟨0x9000#16, 0xFF00#16, fun w => .cfgModel (w.setWidth 8)⟩,
   ⟨0x9100#16, 0xFF00#16, fun w => .cfgStrict (w.setWidth 8)⟩,
   ⟨0x9200#16, 0xFF00#16, fun w => .cfgWifi (w.setWidth 8)⟩,
   ⟨0x9300#16, 0xFF00#16, fun w => .cfgRepeat (w.setWidth 8)⟩,
   ⟨0xA000#16, 0xFFFF#16, fun _ => .setst⟩,
   ⟨0xB000#16, 0xFFFF#16, fun _ => .getst⟩]

/-- The place of `i`'s row in opcode_table.json. -/
def rowIndex : Instr → Nat
  | .csum => 0
  | .pack => 1
  | .unpack => 2
  | .resolve _ => 3
  | .encp _ => 4
  | .decp => 5
  | .tx => 6
  | .rx => 7
  | .cfgModel _ => 8
  | .cfgStrict _ => 9
  | .cfgWifi _ => 10
  | .cfgRepeat _ => 11
  | .setst => 12
  | .getst => 13

/-- A `CFG` field that command `i` reads is ⊥ (70_reset_and_hazards.md R262). -/
def lacksCfg (i : Instr) (g : CfgReg) : Prop :=
  match i with
  | .pack => g.model = none ∨ g.wifi = none
  | .unpack => g.strict = none
  | .tx => g.model = none ∨ g.wifi = none ∨ g.repeats = none
  | .rx => g.model = none ∨ g.strict = none
  | _ => False

/-- A field of the record is ⊥. -/
def hasUnwritten (r : ClimateRecord) : Prop :=
  r.power = none ∨ r.mode = none ∨ r.temp = none ∨ r.fan = none ∨ r.swing = none ∨ r.preset = none

/-- Some duration of the profile is 0. -/
def zeroDuration (p : TimingProfile) : Prop := 0 ∈ durations p

/-- A command record that `SETST` refuses (45_control.md R213). -/
def setstIllFormed (c : ClimateCommand) : Prop :=
  c.fan = .absent ∨ c.temp.toNat < 16 ∨ ¬(c.power = .on ↔ c.mode ≠ .off)

/-- The table of 60_exceptions.md R238 for the reasons a command can be refused with: whether reason `r` applies to command
`i` in state `s`. -/
def refusalCause (i : Instr) (s : State) : Refusal → Prop
  | .illegalCommand => ∃ v : Byte, v.toNat > 1 ∧ (i = .cfgStrict v ∨ i = .cfgWifi v)
  | .cfgUnwritten => lacksCfg i s.cfg
  | .stateUnwritten => i = .getst ∧ hasUnwritten s.climate
  | .modelReserved => (∃ m : BitVec 3, m.toNat > 4 ∧ i = .resolve m) ∨ ∃ v : Byte, v.toNat > 4 ∧ i = .cfgModel v
  | .modelRewrite => (∃ v, i = .cfgModel v) ∧ s.cfg.model ≠ none
  | .repeatZero => i = .encp 0#8 ∨ i = .cfgRepeat 0#8
  | .badProfile => ((∃ n, i = .encp n) ∨ i = .decp) ∧ zeroDuration s.inp.profileIn
  | .tempOutOfRange =>
    (i = .pack ∨ i = .tx) ∧ ∃ c, unpackCommand s.inp.cmdIn = some c ∧ (c.temp.toNat < 16 ∨ 30 < c.temp.toNat)
  | .powerOnModeOff => (i = .pack ∨ i = .tx) ∧ ∃ c, unpackCommand s.inp.cmdIn = some c ∧ c.power = .on ∧ c.mode = .off
  | .badCommandWord => (i = .pack ∨ i = .tx ∨ i = .setst) ∧ badRecordWord s.inp.cmdIn
  | .stateIllFormed => i = .setst ∧ ∃ c, unpackCommand s.inp.cmdIn = some c ∧ setstIllFormed c
  | _ => False

/-- Two states agree on the output ports that command `i` names, as far as its result writes them (30_encoding.md R86; on an
error only `RESULT`, and for `RX` after a good pulse decode `FRAME_OUT` too). -/
def namedPortsAgree (i : Instr) (o o' : OutPorts) : Prop :=
  match i with
  | .csum => o'.csumOut = o.csumOut
  | .pack => o'.frameOut = o.frameOut
  | .unpack => o'.result = o.result ∧ ((∃ r, o.result = .okRecord r) → o'.cmdOut = o.cmdOut)
  | .resolve _ => o'.profileOut = o.profileOut
  | .encp _ => o'.pulseOut = o.pulseOut ∧ o'.carrierOut = o.carrierOut
  | .decp => o'.result = o.result ∧ ((∃ F, o.result = .okFrame F) → o'.frameOut = o.frameOut)
  | .tx => o'.pulseOut = o.pulseOut ∧ o'.carrierOut = o.carrierOut ∧ o'.frameOut = o.frameOut
  | .rx =>
    o'.result = o.result ∧
      ((∃ r, o.result = .okRecord r) → o'.cmdOut = o.cmdOut ∧ o'.frameOut = o.frameOut) ∧
      (∀ e, o.result = .err e → ¬isPulseError e → o'.frameOut = o.frameOut)
  | .cfgModel _ | .cfgStrict _ | .cfgWifi _ | .cfgRepeat _ | .setst => True
  | .getst => o'.cmdOut = o.cmdOut

end Sys2Proof.Machine
end

