-- ==== Sys2Proof/Certificates/Slice0/Obligations.lean ====
section
/-! DEFINITION. The statements for the provers. A statement about a command says what `exec` answers, what the registers, the
input ports and the host's requests hold afterwards, for every state that meets its hypotheses. Each docstring names the rule it
formalises; where it rests on an inference the spec marks as its own ("[derived: …]") or on a log entry, it says so. -/

open Sys2Proof Sys2Proof.Machine

/-! ### Reset and the step -/

/-- 10_state.md R34, 70_reset_and_hazards.md R260: the reset state, and the reset input puts every register in it. That the reset
input is a request and the host's other requests stay is the model's (log 1, log 14). -/
def Obligations.ResetPutsEveryRegisterInItsResetState : Prop :=
  (∀ g, g = State.reset.cfg → g.model = none ∧ g.strict = none ∧ g.wifi = none ∧ g.repeats = none) ∧
  (∀ r, r = State.reset.climate →
    r.power = none ∧ r.mode = none ∧ r.temp = none ∧ r.fan = none ∧ r.swing = none ∧ r.preset = none) ∧
  State.reset.status.toNat = 0 ∧
  ∀ s rest, s.host = .reset :: rest →
    ∃ t, step s = .next t ∧ registersKept State.reset t ∧ t.host = rest

/-- 70_reset_and_hazards.md section 3 (R264), 30_encoding.md section 6: a step whose request presents a command's word is that
command, run on the state in which the input ports hold what the host sets and the request is taken. The copied sources are the
model's (log 23), and so are the free bits of a ⊥ field in the lines of `CMD_OUT` (log 13). -/
def Obligations.StepRunsThePresentedCommand : Prop :=
  ∀ s t rest i, s.host = .command t :: rest → decode t.cmdw = .ok i →
    ∃ s', step s = exec i s' ∧ registersKept s s' ∧ s'.host = rest ∧ s'.out = s.out ∧ s'.freeCtr = s.freeCtr ∧
      s'.inp.cmdw = t.cmdw ∧
      (∀ w, t.cmdIn = .value w → s'.inp.cmdIn = w) ∧ (t.cmdIn = .copyOut → s'.inp.cmdIn = cmdOutLines s) ∧
      (∀ F, t.frameIn = .value F → s'.inp.frameIn = F) ∧ (t.frameIn = .copyOut → s'.inp.frameIn = s.out.frameOut) ∧
      (∀ P, t.pulseIn = .capture P → s'.inp.pulseIn = P) ∧
      (∀ m n, t.pulseIn = .copyOut m n → s'.inp.pulseIn = (s.out.pulseOut.drop m).take n) ∧
      (∀ p, t.profileIn = .value p → s'.inp.profileIn = p) ∧
      (t.profileIn = .copyOut → s'.inp.profileIn = s.out.profileOut)

/-- 60_exceptions.md R245, 70_reset_and_hazards.md R264: with no request the block holds its state (log 1). -/
def Obligations.StepWithoutARequestHoldsTheState : Prop :=
  ∀ s, s.host = [] → step s = .next s

/-! ### Encodings -/

/-- 30_encoding.md section 6 (R86 to R88): decoding an encoded command gives it back, for every operand of its row. -/
def Obligations.DecodeOfEncodeIsTheCommand : Prop :=
  ∀ i : Instr, decode (encode i) = .ok i

/-- 30_encoding.md section 6: a word that decodes is the encoding of what it decodes to, so no bit of a word is dropped. -/
def Obligations.EncodeOfDecodeIsTheWord : Prop :=
  ∀ w i, decode w = .ok i → encode i = w

/-- 30_encoding.md section 6 (R86, opcode_table.json): a word that matches a row decodes to the row's command with the row's
operand bits, a word that matches no row is refused, and no word matches two rows. -/
def Obligations.DecodeFollowsTheOpcodeTable : Prop :=
  ∀ w : CmdWord,
    (∀ row ∈ opcodeRows, w &&& row.mask = row.pattern → decode w = .ok (row.command w)) ∧
    ((∃ row ∈ opcodeRows, w &&& row.mask = row.pattern) ∨ ∃ e, decode w = .error e) ∧
    (opcodeRows.filter fun row => w &&& row.mask = row.pattern).length ≤ 1

/-- 30_encoding.md R89 and 95_test_vectors.md section 2.10: which words decoding refuses, and under which reason, and that a step that
presents one is refused so. A word that decodes may still be refused by its command's meaning (ResolveGivesTheTableRow,
CfgWritesOneFieldOrIsRefused, CommandsCompleteUnlessARefusalReasonApplies). That `RESOLVE` with `IMM[7:3]` not 0 is `ModelReserved` and not `IllegalCommand` is log 10; that `SEL`
comes first is log 11. -/
def Obligations.ReservedWordsAreRefused : Prop :=
  ∀ w : CmdWord, ∀ op sel imm, op = w.toNat / 4096 → sel = w.toNat / 256 % 16 → imm = w.toNat % 256 →
    (decode w = .error .illegalCommand ↔
      op = 0 ∨ 12 ≤ op ∨ (op = 9 ∧ 4 ≤ sel) ∨ (op ≠ 9 ∧ sel ≠ 0) ∨ (op ∉ [4, 5, 9] ∧ imm ≠ 0)) ∧
    (decode w = .error .modelReserved ↔ op = 4 ∧ sel = 0 ∧ 8 ≤ imm) ∧
    ∀ s t rest, s.host = .command t :: rest → t.cmdw = w →
      (decode w = .error .illegalCommand → step s = .refused .illegalCommand) ∧
      (decode w = .error .modelReserved → step s = .refused .modelReserved)

/-- 30_encoding.md section 6 and the programs of 95_test_vectors.md: a few words written out. -/
def Obligations.SampleWordsDecode : Prop :=
  decode 0x1000#16 = .ok .csum ∧ decode 0x2000#16 = .ok .pack ∧ decode 0x3000#16 = .ok .unpack ∧
  decode 0x4003#16 = .ok (.resolve 3#3) ∧ decode 0x50FF#16 = .ok (.encp 255#8) ∧ decode 0x6000#16 = .ok .decp ∧
  decode 0x7000#16 = .ok .tx ∧ decode 0x8000#16 = .ok .rx ∧ decode 0x9003#16 = .ok (.cfgModel 3#8) ∧
  decode 0x9101#16 = .ok (.cfgStrict 1#8) ∧ decode 0x9200#16 = .ok (.cfgWifi 0#8) ∧
  decode 0x9302#16 = .ok (.cfgRepeat 2#8) ∧ decode 0xA000#16 = .ok .setst ∧ decode 0xB000#16 = .ok .getst

/-- 30_encoding.md R84: the packed record's codes, the words that are refused, and the round trip both ways. -/
def Obligations.PackedRecordRoundTrip : Prop :=
  (∀ c, (packCommand c).toNat = recordCode c ∧ unpackCommand (packCommand c) = some c) ∧
  (∀ w c, unpackCommand w = some c → w.toNat = recordCode c) ∧
  ∀ w, unpackCommand w = none ↔ badRecordWord w

/-- 20_memory.md R54: what a field accessor reads, and that a write gives the field its value and leaves every other bit of the
frame unchanged. -/
def Obligations.FrameFieldAccessorsReadAndWriteTheirBits : Prop :=
  ∀ (F : Frame) (f : FrameField),
    (frameGet F f).toNat = bitsOf F[fieldByte f] (fieldOffset f) (fieldWidth f) ∧
    ∀ v : Byte, v.toNat < 2 ^ fieldWidth f →
      frameGet (frameSet F f v) f = v ∧
      ∀ b k : Fin 8,
        (¬(b = fieldByte f ∧ fieldOffset f ≤ k.val ∧ k.val < fieldOffset f + fieldWidth f) →
          frameBit (frameSet F f v) b.val k.val = frameBit F b.val k.val) ∧
        (b = fieldByte f → fieldOffset f ≤ k.val → k.val < fieldOffset f + fieldWidth f →
          frameBit (frameSet F f v) b.val k.val = v.getLsbD (k.val - fieldOffset f))

/-- 30_encoding.md R72: the fields fill the frame, each bit being in exactly one field. -/
def Obligations.FrameFieldsPartitionTheFrame : Prop :=
  ∀ b k : Fin 8, ∃ f, (fieldByte f = b ∧ fieldOffset f ≤ k.val ∧ k.val < fieldOffset f + fieldWidth f) ∧
    ∀ g, (fieldByte g = b ∧ fieldOffset g ≤ k.val ∧ k.val < fieldOffset g + fieldWidth g) → g = f

/-! ### CSUM -/

/-- 40_checksum.md R110 (and R111 for the command): the accumulator starts at 10, takes the low nibbles of bytes 0..3 and the high
nibbles of bytes 4..6, and is taken mod 16; `CSUM` writes that and nothing else that a command may rely on. -/
def Obligations.CsumWritesTheChecksum : Prop :=
  ∀ s, ∃ t, exec .csum s = .next t ∧ registersKept s t ∧ inputsKept s t ∧
    t.out.csumOut.toNat =
      (10 + ∑ i : Fin 4, bitsOf s.inp.frameIn[i] 0 4 + ∑ i : Fin 3, bitsOf s.inp.frameIn[i.val + 4] 4 4) % 16

/-- 40_checksum.md R113, an inference the spec marks as its own: flipping a bit changes the checksum, for every frame, exactly when
it is one of the 28 participating bits. -/
def Obligations.ChecksumIsSensitiveToItsBitsOnly : Prop :=
  ∀ (F : Frame) (b k : Fin 8),
    checksum (flipBit F b k) ≠ checksum F ↔ (b.val ≤ 3 ∧ k.val ≤ 3) ∨ (4 ≤ b.val ∧ b.val ≤ 6 ∧ 4 ≤ k.val)

/-! ### PACK and UNPACK -/

/-- 41_frame_codec.md R123, R125, R126 (with R121, R122, R124 and the column of 30_encoding.md R72): an accepted command completes,
and every field of `FRAME_OUT` holds the value of the table's column. -/
def Obligations.PackWritesEveryFrameField : Prop :=
  ∀ s c m w, unpackCommand s.inp.cmdIn = some c → s.cfg.model = some m → s.cfg.wifi = some w → packLegal c →
    ∃ t, exec .pack s = .next t ∧ registersKept s t ∧ inputsKept s t ∧
      ∀ f, (frameGet t.out.frameOut f).toNat = packColumn c m w t.out.frameOut f

/-- 41_frame_codec.md R127: `PACK` is refused exactly when one of the four contract violations holds, and the reason it is refused
with holds. -/
def Obligations.PackIsRefusedExactlyOnContractViolations : Prop :=
  ∀ s,
    ((∃ r, exec .pack s = .refused r) ↔
      s.cfg.model = none ∨ s.cfg.wifi = none ∨ badRecordWord s.inp.cmdIn ∨
        ∃ c, unpackCommand s.inp.cmdIn = some c ∧ ¬packLegal c) ∧
    ∀ r, exec .pack s = .refused r →
      (r = .cfgUnwritten ∧ (s.cfg.model = none ∨ s.cfg.wifi = none)) ∨
      (r = .badCommandWord ∧ badRecordWord s.inp.cmdIn) ∨
      (∃ c, unpackCommand s.inp.cmdIn = some c ∧
        ((r = .tempOutOfRange ∧ (c.temp.toNat < 16 ∨ 30 < c.temp.toNat)) ∨
          (r = .powerOnModeOff ∧ c.power = .on ∧ c.mode = .off)))

/-- 41_frame_codec.md R131: a checksum that disagrees fails a strict decode with the computed and the stored value, and nothing but
`STATUS` is written; a lenient decode goes on, with `CSUM_WARN` set whatever it then gives. -/
def Obligations.UnpackValidatesTheChecksumFirst : Prop :=
  ∀ s strict, s.cfg.strict = some strict → checksum s.inp.frameIn ≠ sumField s.inp.frameIn →
    ∃ t, exec .unpack s = .next t ∧ t.cfg = s.cfg ∧ t.climate = s.climate ∧ inputsKept s t ∧
      (strict = true →
        t.out.result = .err (.checksumMismatch (checksum s.inp.frameIn) (sumField s.inp.frameIn)) ∧
        t.status.toNat = 8 + (checksum s.inp.frameIn).toNat * 2 ^ 12 + (sumField s.inp.frameIn).toNat * 2 ^ 16) ∧
      (strict = false → t.status.toNat / 2 ^ 4 % 2 = 1 ∧ ∀ e a, t.out.result ≠ .err (.checksumMismatch e a))

/-- 41_frame_codec.md R132: a power-off frame gives the prior record with power and mode OFF, whatever its other fields hold. -/
def Obligations.UnpackOfPowerOffKeepsThePriorFields : Prop :=
  ∀ s strict, s.cfg.strict = some strict → goesOn s.inp.frameIn strict → bitsOf s.inp.frameIn[0] 3 1 = 0 →
    ∃ t, exec .unpack s = .next t ∧ t.cfg = s.cfg ∧ t.climate = s.climate ∧ inputsKept s t ∧
      t.out.result = .okRecord (turnedOff s.climate) ∧ t.out.cmdOut = turnedOff s.climate ∧
      t.status.toNat = warnWord s.inp.frameIn

/-- 41_frame_codec.md R133, R135, R136, R137 (and R134): a power-on frame is decoded field by field, or fails with `UnknownMode`. -/
def Obligations.UnpackOfPowerOnDecodesEveryField : Prop :=
  ∀ s strict, s.cfg.strict = some strict → goesOn s.inp.frameIn strict → bitsOf s.inp.frameIn[0] 3 1 = 1 →
    ∃ t, exec .unpack s = .next t ∧ t.cfg = s.cfg ∧ t.climate = s.climate ∧ inputsKept s t ∧
      (∀ m, modeTable[bitsOf s.inp.frameIn[0] 0 3]? = some m →
        t.out.result = .okRecord (decodedRecord s.inp.frameIn m) ∧ t.out.cmdOut = decodedRecord s.inp.frameIn m ∧
        t.status.toNat = warnWord s.inp.frameIn) ∧
      (5 ≤ bitsOf s.inp.frameIn[0] 0 3 →
        t.out.result = .err (.unknownMode (BitVec.ofNat 3 (bitsOf s.inp.frameIn[0] 0 3))) ∧
        t.status.toNat = 7 + warnWord s.inp.frameIn + bitsOf s.inp.frameIn[0] 0 3 * 2 ^ 12)

/-- 41_frame_codec.md section 3 (R141, R142, inferences the spec marks as its own): unpacking a packed frame, under any strictness,
gives the command back, ABSENT as AUTO; of a power-off command it gives the prior record turned off; no warning, no error. -/
def Obligations.UnpackOfPackGivesTheCommand : Prop :=
  ∀ s t c s' strict, exec .pack s = .next t → unpackCommand s.inp.cmdIn = some c →
    s'.inp.frameIn = t.out.frameOut → s'.cfg.strict = some strict →
    ∃ u, exec .unpack s' = .next u ∧ u.status.toNat = 0 ∧ registersKept { s' with status := u.status } u ∧
      u.out.result = .okRecord (if c.power = .on then recordOf c else turnedOff s'.climate) ∧
      u.out.cmdOut = (if c.power = .on then recordOf c else turnedOff s'.climate)

/-- 41_frame_codec.md section 2 (R138, an inference the spec marks as its own): two frames that agree in the fields `UNPACK` reads and
in both checksum values are decoded alike. That the output ports `UNPACK` leaves undefined (R28) are equal too is the model's: a free
value is a function of the counter (log 2). -/
def Obligations.UnpackIgnoresTheUnreadFields : Prop :=
  ∀ (s : Machine.State) (F G : Frame),
    (∀ f ∈ [FrameField.mode, .power, .fan, .sleep, .temp, .swingV, .swingH, .sum], frameGet F f = frameGet G f) →
    checksum F = checksum G →
    ∀ t u, exec .unpack { s with inp := { s.inp with frameIn := F } } = .next t →
      exec .unpack { s with inp := { s.inp with frameIn := G } } = .next u →
      u.out = t.out ∧ registersKept t u

/-- 41_frame_codec.md section 3 (R143, an inference the spec marks as its own): a valid frame whose byte 7 is corrupted so that `SUM`
changes decodes to the same outputs when lenient, with the warning added, and fails with `ChecksumMismatch` when strict. That the
output ports `UNPACK` leaves undefined (R28) are equal too is the model's: a free value is a function of the counter (log 2). -/
def Obligations.CorruptedSumIsToleratedOnlyWhenLenient : Prop :=
  ∀ s (v : Byte) strict t, s.cfg.strict = some strict → checksum s.inp.frameIn = sumField s.inp.frameIn →
    bitsOf v 4 4 ≠ bitsOf s.inp.frameIn[7] 4 4 → exec .unpack s = .next t →
    ∃ u, exec .unpack { s with inp := { s.inp with frameIn := s.inp.frameIn.set 7 v } } = .next u ∧
      (strict = false → u.out = t.out ∧ u.status.toNat = t.status.toNat + 2 ^ 4) ∧
      (strict = true → ∃ e a, u.out.result = .err (.checksumMismatch e a) ∧ e ≠ a)

/-! ### RESOLVE -/

/-- 42_timing_profile.md R150: every model's row of the table; codes 5..7 are refused (R151). `RESOLVE` does not read `CFG`. -/
def Obligations.ResolveGivesTheTableRow : Prop :=
  ∀ s (m : BitVec 3),
    (∀ row, profileRows[m.toNat]? = some row →
      ∃ t, exec (.resolve m) s = .next t ∧ registersKept s t ∧ inputsKept s t ∧ durations t.out.profileOut = row) ∧
    (5 ≤ m.toNat → exec (.resolve m) s = .refused .modelReserved)

/-! ### ENCP and TX -/

/-- 43_pulse_encoder.md R160 (with R162, R164 and the positions of 30_encoding.md R82): `ENCP` completes for every frame, every legal
profile and every count but 0; every entry of its output stands at its place, and there are 140 for each repetition. -/
def Obligations.EncpEmitsEveryEntryAtItsPlace : Prop :=
  ∀ s (n : Byte), n.toNat ≠ 0 → ¬zeroDuration s.inp.profileIn →
    ∃ t, exec (.encp n) s = .next t ∧ registersKept s t ∧ inputsKept s t ∧
      t.out.pulseOut.length = 140 * n.toNat ∧ t.out.carrierOut = 38000 ∧
      ∀ j, j < 140 * n.toNat → t.out.pulseOut[j]? = some (entryAt s.inp.profileIn s.inp.frameIn j)

/-- 43_pulse_encoder.md R166, an inference the spec marks as its own: the duration of the output in microseconds. -/
def Obligations.EncpTakesTheStatedTime : Prop :=
  ∀ s (n : Byte) t, exec (.encp n) s = .next t →
    ∀ p F n1, p = s.inp.profileIn → F = s.inp.frameIn → n1 = frameOnes F →
    (t.out.pulseOut.map fun e => e.dur.toNat).sum =
      n.toNat * (p.headerMark.toNat + p.headerSpace.toNat + 69 * p.bitMark.toNat + (n1 + 1) * p.oneSpace.toNat +
        (66 - n1) * p.zeroSpace.toNat + 2 * p.messageSpace.toNat)

/-- 43_pulse_encoder.md section TX (R163): `TX` completes; `FRAME_OUT` holds the packed fields, and `PULSE_OUT` that frame under the
profile of the one `CFG.MODEL`, `CFG.REPEAT` times; no register changes. -/
def Obligations.TxSendsThePackedFrame : Prop :=
  ∀ s c m w (n : Byte), unpackCommand s.inp.cmdIn = some c → s.cfg.model = some m → s.cfg.wifi = some w →
    s.cfg.repeats = some n → packLegal c →
    ∃ t, exec .tx s = .next t ∧ registersKept s t ∧ inputsKept s t ∧
      (∀ f, (frameGet t.out.frameOut f).toNat = packColumn c m w t.out.frameOut f) ∧
      t.out.pulseOut.length = 140 * n.toNat ∧ t.out.carrierOut = 38000 ∧
      ∀ j, j < 140 * n.toNat → t.out.pulseOut[j]? = some (entryAt (profileOf m) t.out.frameOut j)

/-- 00_scope.md R2, 43_pulse_encoder.md section TX (R163): the encode path `TX` is `PACK`, then `RESOLVE` of the same model, then `ENCP`
of what they gave, for every state on which `PACK` completes and the repeat count is written and not 0. -/
def Obligations.TxIsPackThenResolveThenEncp : Prop :=
  ∀ s m n a, s.cfg.model = some m → s.cfg.repeats = some n → n ≠ 0#8 → exec .pack s = .next a →
    ∃ b, exec (.resolve (modelCode m)) a = .next b ∧
    ∃ d, exec (.encp n) { b with inp := { b.inp with frameIn := a.out.frameOut, profileIn := b.out.profileOut } } = .next d ∧
    ∃ t, exec .tx s = .next t ∧ t.out.frameOut = a.out.frameOut ∧ t.out.pulseOut = d.out.pulseOut ∧
      t.out.carrierOut = d.out.carrierOut ∧ registersKept s t ∧ registersKept d t ∧ inputsKept s t

/-! ### DECP -/

/-- 44_pulse_decoder.md R183: fewer than 130 entries are `TooShort`, more than 150 `TooLong`, whatever they are; 130 to 150 pass. -/
def Obligations.DecpChecksTheLengthFirst : Prop :=
  ∀ s, ¬zeroDuration s.inp.profileIn →
    ∃ t, exec .decp s = .next t ∧ t.cfg = s.cfg ∧ t.climate = s.climate ∧ inputsKept s t ∧
      (t.out.result = .err .tooShort ↔ s.inp.pulseIn.length < 130) ∧
      (t.out.result = .err .tooLong ↔ 150 < s.inp.pulseIn.length) ∧
      (s.inp.pulseIn.length < 130 → t.status.toNat = 1) ∧ (150 < s.inp.pulseIn.length → t.status.toNat = 2)

/-- 44_pulse_decoder.md R192: `DECP` completes on every input but a bad profile, with `Ok` and `STATUS` 0, or with a pulse-stage error
whose code and values `STATUS` records; `CSUM_WARN` is 0; `CFG` and `STATE` are kept. -/
def Obligations.DecpWritesStatusOnEveryOutcome : Prop :=
  ∀ s, ¬zeroDuration s.inp.profileIn →
    ∃ t, exec .decp s = .next t ∧ t.cfg = s.cfg ∧ t.climate = s.climate ∧ inputsKept s t ∧
      ((∃ F, t.out.result = .okFrame F ∧ t.out.frameOut = F ∧ t.status.toNat = 0) ∨
        ∃ e, t.out.result = .err e ∧ isPulseError e ∧ t.status.toNat = errorWord e)

/-- 44_pulse_decoder.md section 2 (R183 to R189): `DECP` gives the frame `F` exactly when every stage passes and the cell at the place
of each bit carries that bit of `F`. Loop and cursor against a description by places. -/
def Obligations.DecpSucceedsExactlyOnTheDescribedSequences : Prop :=
  ∀ s F, ¬zeroDuration s.inp.profileIn →
    ((∃ t, exec .decp s = .next t ∧ t.out.result = .okFrame F) ↔
      decodesTo Config.tolPct s.inp.profileIn s.inp.pulseIn F)

/-- 44_pulse_decoder.md R184, R186, R187 (with R180, R185, R188): the first stage that fails ends the command with that stage's error,
and a bit cell that matches neither form is reported with its byte and bit. -/
def Obligations.DecpReportsTheFirstFailingStage : Prop :=
  ∀ s p P tol, p = s.inp.profileIn → P = s.inp.pulseIn → tol = Config.tolPct.val → ¬zeroDuration p →
    130 ≤ P.length → P.length ≤ 150 →
    ∃ t, exec .decp s = .next t ∧
      (pairAt tol P 0 p.headerMark p.headerSpace = false → t.out.result = .err .headerMismatch) ∧
      (pairAt tol P 0 p.headerMark p.headerSpace = true →
        (∀ b k : Fin 8, b.val ≤ 3 → cellsBefore tol p P 0 b.val k.val → ¬isCell tol p P (cellIndex b.val k.val) →
          t.out.result = .err (.bitDecode b k)) ∧
        (cellsBefore tol p P 0 4 0 →
          (¬footerReads tol p P → t.out.result = .err .footerMismatch) ∧
          (footerReads tol p P →
            (pairAt tol P 72 p.bitMark p.messageSpace = false → t.out.result = .err .messageSpaceMismatch) ∧
            (pairAt tol P 72 p.bitMark p.messageSpace = true →
              ∀ b k : Fin 8, 4 ≤ b.val → cellsBefore tol p P 4 b.val k.val →
                ¬isCell tol p P (cellIndex b.val k.val) → t.out.result = .err (.bitDecode b k)))))

/-- 44_pulse_decoder.md section 5 (R199, an inference the spec marks as its own): a first mark more than 20 % away from the nominal one
is `HeaderMismatch`, whatever the open tolerance is. -/
def Obligations.HeaderMarkOffByMoreThanTwentyPercentFails : Prop :=
  ∀ s d nom, ¬zeroDuration s.inp.profileIn → 130 ≤ s.inp.pulseIn.length → s.inp.pulseIn.length ≤ 150 →
    s.inp.pulseIn.head? = some ⟨.mark, d⟩ → nom = s.inp.profileIn.headerMark.toNat →
    (120 * nom < 100 * d.toNat ∨ 100 * d.toNat < 80 * nom) →
    ∃ t, exec .decp s = .next t ∧ t.out.result = .err .headerMismatch ∧ t.status.toNat = 3 ∧ t.climate = s.climate

/-- 44_pulse_decoder.md R189: the entries from index 138 on are not examined. That the output ports `DECP` leaves undefined (R28) are
equal too is the model's: a free value is a function of the counter (log 2). -/
def Obligations.EntriesFrom138OnAreNotExamined : Prop :=
  ∀ (s : Machine.State) (P Q : PulseSeq), 138 ≤ P.length → P.length ≤ 150 → 138 ≤ Q.length → Q.length ≤ 150 → P.take 138 = Q.take 138 →
    ∀ t, exec .decp { s with inp := { s.inp with pulseIn := P } } = .next t →
      ∃ u, exec .decp { s with inp := { s.inp with pulseIn := Q } } = .next u ∧ u.out = t.out ∧ registersKept t u

/-- 44_pulse_decoder.md section 3 (R193, an inference the spec marks as its own, decision D5): an encoded sequence cut to 130..137 entries
fails at the first pair it lacks, in byte 7, for every frame, every profile of the table and every tolerance. -/
def Obligations.CutSequencesFailInByteSeven : Prop :=
  ∀ m (F : Frame) (tol : Nat) (n : Nat) (k : Fin 8), tol ≤ 20 → 130 ≤ n → n ≤ 137 → k.val = 4 + (n - 130) / 2 →
    decodePulses tol (profileOf m) ((repetition (profileOf m) F).take n) = .error (.bitDecode 7 k)

/-- 44_pulse_decoder.md section 5 (R198, an inference the spec marks as its own): what `ENCP` emits once, whole or without its last one or
two entries, `DECP` decodes to the same frame under the same profile of the table; two or more repetitions are `TooLong`. -/
def Obligations.DecpOfEncpGivesTheFrame : Prop :=
  ∀ s (n : Byte) t s' m k, exec (.encp n) s = .next t → s.inp.profileIn = profileOf m → s'.inp.profileIn = profileOf m →
    138 ≤ k → s'.inp.pulseIn = t.out.pulseOut.take k →
    ∃ u, exec .decp s' = .next u ∧
      (n.toNat = 1 ∨ k ≤ 140 → u.out.result = .okFrame s.inp.frameIn ∧ u.out.frameOut = s.inp.frameIn ∧ u.status.toNat = 0) ∧
      (2 ≤ n.toNat → 280 ≤ k → u.out.result = .err .tooLong)

/-- 44_pulse_decoder.md section 3 (R194, an inference the spec marks as its own): within one profile of the table no space matches two of the
ONE, ZERO and MSG cells, for every tolerance in range. -/
def Obligations.SpaceWindowsAreDisjoint : Prop :=
  ∀ m tol (d : Dur), tol ≤ 20 → ∀ p, p = profileOf m →
    ¬(durMatch tol d p.oneSpace = true ∧ durMatch tol d p.zeroSpace = true) ∧
    ¬(durMatch tol d p.oneSpace = true ∧ durMatch tol d p.messageSpace = true) ∧
    ¬(durMatch tol d p.zeroSpace = true ∧ durMatch tol d p.messageSpace = true)

/-- 70_reset_and_hazards.md section 4 (R269, an inference the spec marks as its own): across models. A YAC1FB9 sequence decodes under the
Generic or YT1F profile exactly from 13 % on, the reverse exactly from 12 % on, and the 6000 µs models never match the others. -/
def Obligations.CrossModelDecodingHasItsThresholds : Prop :=
  ∀ (F : Frame) (tol : Nat), tol ≤ 20 →
    (∀ m, m = .generic ∨ m = .yt1f →
      decodePulses tol (profileOf m) (repetition (profileOf .yac1fb9) F) =
        (if 13 ≤ tol then .ok F else .error .headerMismatch) ∧
      decodePulses tol (profileOf .yac1fb9) (repetition (profileOf m) F) =
        (if 12 ≤ tol then .ok F else .error .headerMismatch)) ∧
    ∀ m m', (m = .yaw1f ∨ m = .ybofb) → (m' = .generic ∨ m' = .yt1f ∨ m' = .yac1fb9) →
      decodePulses tol (profileOf m') (repetition (profileOf m) F) = .error .headerMismatch ∧
      decodePulses tol (profileOf m) (repetition (profileOf m') F) = .error .headerMismatch

/-! ### RX -/

/-- 44_pulse_decoder.md R196: a pulse sequence that decodes to a frame the codec accepts is committed to `STATE`, every field for a
power-on frame, power and mode alone for a power-off one. -/
def Obligations.RxCommitsTheDecodedState : Prop :=
  ∀ s m strict F, s.cfg.model = some m → s.cfg.strict = some strict →
    decodesTo Config.tolPct (profileOf m) s.inp.pulseIn F → goesOn F strict →
    (bitsOf F[0] 3 1 = 0 ∨ ∃ q, modeTable[bitsOf F[0] 0 3]? = some q) →
    ∃ t, exec .rx s = .next t ∧ t.cfg = s.cfg ∧ inputsKept s t ∧ t.status.toNat = warnWord F ∧ t.out.frameOut = F ∧
      t.out.result = .okRecord t.climate ∧ t.out.cmdOut = t.climate ∧
      (bitsOf F[0] 3 1 = 0 → t.climate = turnedOff s.climate) ∧
      (bitsOf F[0] 3 1 = 1 → ∀ q, modeTable[bitsOf F[0] 0 3]? = some q → t.climate = decodedRecord F q)

/-- 44_pulse_decoder.md R197: on every error `STATE` is as it was, and `CFG` is never written; `STATUS` records the error. -/
def Obligations.RxFailureLeavesStateUntouched : Prop :=
  ∀ s t, exec .rx s = .next t → t.cfg = s.cfg ∧ inputsKept s t ∧
    ∀ e, t.out.result = .err e →
      t.climate = s.climate ∧ (t.status.toNat = errorWord e ∨ ∃ raw, e = .unknownMode raw ∧ t.status.toNat = errorWord e + 2 ^ 4)

/-- 00_scope.md R2, 44_pulse_decoder.md section 4 (R195): the decode path `RX` is `DECP` under the profile of `CFG.MODEL` and then `UNPACK`
of the frame it gave, with `STATE` committed when both succeed; it completes whenever the two `CFG` fields are written. -/
def Obligations.RxIsDecpThenUnpackThenCommit : Prop :=
  ∀ s m strict, s.cfg.model = some m → s.cfg.strict = some strict →
    ∃ a, exec .decp { s with inp := { s.inp with profileIn := profileOf m } } = .next a ∧
    ∃ t, exec .rx s = .next t ∧
      (∀ e, a.out.result = .err e → t.out.result = .err e ∧ t.status = a.status ∧ t.climate = s.climate) ∧
      ∀ F, a.out.result = .okFrame F →
        ∃ b, exec .unpack { s with inp := { s.inp with frameIn := F } } = .next b ∧
          t.out.frameOut = F ∧ t.out.result = b.out.result ∧ t.status = b.status ∧
          (∀ r, b.out.result = .okRecord r → t.climate = r ∧ t.out.cmdOut = r) ∧
          (∀ e, b.out.result = .err e → t.climate = s.climate)

/-- 44_pulse_decoder.md section 5 (R198) and 70_reset_and_hazards.md R270: the block receives its own single transmission, under the
same `CFG`, whatever the tolerance and the strictness, and `STATE` then holds the transmitted command. -/
def Obligations.RxOfTxCommitsTheCommand : Prop :=
  ∀ s t c s' strict, exec .tx s = .next t → unpackCommand s.inp.cmdIn = some c → s.cfg.repeats = some 1#8 →
    s'.cfg.model = s.cfg.model → s'.cfg.strict = some strict → s'.inp.pulseIn = t.out.pulseOut →
    ∃ u, exec .rx s' = .next u ∧ u.status.toNat = 0 ∧ u.out.frameOut = t.out.frameOut ∧ u.cfg = s'.cfg ∧
      u.climate = (if c.power = .on then recordOf c else turnedOff s'.climate) ∧ u.out.result = .okRecord u.climate

/-! ### CFG, SETST, GETST -/

/-- 45_control.md R210: the four fields, each with its refusals; a command that completes writes its field and nothing else. -/
def Obligations.CfgWritesOneFieldOrIsRefused : Prop :=
  ∀ s (v : Byte),
    (encode (.cfgModel v)).toNat = 0x9000 + v.toNat ∧ (encode (.cfgStrict v)).toNat = 0x9100 + v.toNat ∧
    (encode (.cfgWifi v)).toNat = 0x9200 + v.toNat ∧ (encode (.cfgRepeat v)).toNat = 0x9300 + v.toNat ∧
    (∀ sel : BitVec 4, 4 ≤ sel.toNat → decode (commandWord 9#4 sel v) = .error .illegalCommand) ∧
    (4 < v.toNat → exec (.cfgModel v) s = .refused .modelReserved) ∧
    (v.toNat ≤ 4 → s.cfg.model ≠ none → exec (.cfgModel v) s = .refused .modelRewrite) ∧
    (v.toNat ≤ 4 → s.cfg.model = none → ∃ t m, exec (.cfgModel v) s = .next t ∧ (modelCode m).toNat = v.toNat ∧
      registersKept { s with cfg := { s.cfg with model := some m } } t ∧ inputsKept s t) ∧
    (1 < v.toNat → exec (.cfgStrict v) s = .refused .illegalCommand ∧ exec (.cfgWifi v) s = .refused .illegalCommand) ∧
    (∀ b : Bool, v.toNat = b.toNat →
      (∃ t, exec (.cfgStrict v) s = .next t ∧
        registersKept { s with cfg := { s.cfg with strict := some b } } t ∧ inputsKept s t) ∧
      ∃ t, exec (.cfgWifi v) s = .next t ∧
        registersKept { s with cfg := { s.cfg with wifi := some b } } t ∧ inputsKept s t) ∧
    (v.toNat = 0 → exec (.cfgRepeat v) s = .refused .repeatZero) ∧
    (v.toNat ≠ 0 → ∃ t, exec (.cfgRepeat v) s = .next t ∧
      registersKept { s with cfg := { s.cfg with repeats := some v } } t ∧ inputsKept s t)

/-- 10_state.md R23, 70_reset_and_hazards.md R263: once `CFG.MODEL` holds a value, a step changes it only when the host asserts reset. -/
def Obligations.ModelIsWriteOnceUntilReset : Prop :=
  ∀ s t m, s.cfg.model = some m → step s = .next t →
    t.cfg.model = some m ∨ (s.host.head? = some .reset ∧ t.cfg.model = none)

/-- 45_control.md R213: `SETST` (0xA000) writes the record, or is refused. -/
def Obligations.SetstWritesTheStateOrIsRefused : Prop :=
  (encode .setst).toNat = 0xA000 ∧
  ∀ s,
    (badRecordWord s.inp.cmdIn → exec .setst s = .refused .badCommandWord) ∧
    ∀ c, unpackCommand s.inp.cmdIn = some c →
      (setstIllFormed c → exec .setst s = .refused .stateIllFormed) ∧
      (¬setstIllFormed c →
        ∃ t f, exec .setst s = .next t ∧ c.fan = .speed f ∧
          registersKept { s with climate := ⟨some c.power, some c.mode, some c.temp, some f, some c.swing, some c.preset⟩ } t ∧
          inputsKept s t)

/-- 45_control.md R212: `GETST` (0xB000) puts a written `STATE` on `CMD_OUT`, whose packed form then has the codes of 30_encoding.md R84; it is
refused exactly when a field is ⊥. -/
def Obligations.GetstReadsTheWholeState : Prop :=
  (encode .getst).toNat = 0xB000 ∧
  ∀ s,
    (hasUnwritten s.climate → exec .getst s = .refused .stateUnwritten) ∧
    ∀ c f, c.fan = .speed f → s.climate = recordOf c →
      ∃ t, exec .getst s = .next t ∧ registersKept s t ∧ inputsKept s t ∧ t.out.cmdOut = s.climate ∧
        (cmdOutLines t).toNat = recordCode c ∧ ∃ w, packRecord t.out.cmdOut = some w ∧ w.toNat = recordCode c

/-! ### The whole machine -/

/-- 60_exceptions.md R236: no command but `UNPACK`, `DECP` and `RX` writes `STATUS`, and each write of these replaces all of it: the new
word does not depend on the old one. That the outputs do not either is 41_frame_codec.md R139, 44_pulse_decoder.md R191, R195 for the
ports a command names, and the model's for those it leaves undefined (R28): a free value is a function of the counter (log 2). -/
def Obligations.StatusIsWrittenWholeByTheDecodeFamilyOnly : Prop :=
  ∀ i s t, exec i s = .next t →
    (i ≠ .unpack → i ≠ .decp → i ≠ .rx → t.status = s.status) ∧
    (i = .unpack ∨ i = .decp ∨ i = .rx →
      ∀ w, ∃ u, exec i { s with status := w } = .next u ∧ u.status = t.status ∧ u.out = t.out ∧
        ((∃ e, t.out.result = .err e) ↔ t.status.toNat % 16 ≠ 0))

/-- 10_state.md R23, R24 ("written by" columns), 20_memory.md R57: which command writes `CFG` and `STATE`; none touches its input ports or the
host's requests. -/
def Obligations.EachRegisterHasItsWriters : Prop :=
  ∀ i s t, exec i s = .next t → inputsKept s t ∧
    (t.climate = s.climate ∨ i = .setst ∨ (i = .rx ∧ t.out.result = .okRecord t.climate)) ∧
    (t.cfg.model = s.cfg.model ∨ ∃ v, i = .cfgModel v) ∧ (t.cfg.strict = s.cfg.strict ∨ ∃ v, i = .cfgStrict v) ∧
    (t.cfg.wifi = s.cfg.wifi ∨ ∃ v, i = .cfgWifi v) ∧ (t.cfg.repeats = s.cfg.repeats ∨ ∃ v, i = .cfgRepeat v)

/-- 60_exceptions.md section 4 (R237, R238): a command is refused exactly when a reason of the closed list applies to it, and the reason it
is refused with applies; in every other case it completes. -/
def Obligations.CommandsCompleteUnlessARefusalReasonApplies : Prop :=
  ∀ i s,
    ((∃ t, exec i s = .next t) ↔ ∀ r, ¬refusalCause i s r) ∧
    ∀ r, exec i s = .refused r → refusalCause i s r

/-- 70_reset_and_hazards.md section 2 (R262, an inference the spec marks as its own): a command that lacks a `CFG` field is refused, with
`CfgUnwritten` where its `CMD_IN` is no bad word; a command that is refused so lacks one. -/
def Obligations.CommandsNeedTheirConfiguration : Prop :=
  ∀ i s,
    (lacksCfg i s.cfg → (∃ r, exec i s = .refused r) ∧
      (¬badRecordWord s.inp.cmdIn → exec i s = .refused .cfgUnwritten)) ∧
    (exec i s = .refused .cfgUnwritten → lacksCfg i s.cfg)

/-- 20_memory.md section 3 (R58, an inference the spec marks as its own): every command but `CFG MODEL`, issued again with the same inputs,
completes again with the same named outputs and the same registers. -/
def Obligations.CommandsAreIdempotent : Prop :=
  ∀ i s t, (∀ v, i ≠ .cfgModel v) → exec i s = .next t →
    ∃ u, exec i t = .next u ∧ registersKept t u ∧ namedPortsAgree i t.out u.out

/-- 10_state.md R23 to R25, R30 and 60_exceptions.md R231, R232: every step keeps the invariant of the state, from every state that has it. -/
def Obligations.EveryStepKeepsTheInvariant : Prop :=
  ∀ s t, StateInv s → step s = .next t → StateInv t

/-- 10_state.md R34: the state after reset has the invariant. -/
def Obligations.ResetHasTheInvariant : Prop :=
  StateInv State.reset
end

