-- ==== Sys2Proof/Laws/Encoding.lean ====
section
/-! SUPPORT. The three fields of a command word as numbers, and a word as its three fields (30_encoding.md R85). -/

namespace Sys2Proof

theorem opField_toNat (w : CmdWord) : (opField w).toNat = w.toNat / 4096 := by
  simp [opField, Nat.shiftRight_eq_div_pow]; omega

theorem selField_toNat (w : CmdWord) : (selField w).toNat = w.toNat / 256 % 16 := by
  simp [selField, Nat.shiftRight_eq_div_pow]

theorem immField_toNat (w : CmdWord) : (immField w).toNat = w.toNat % 256 := by
  simp [immField, Nat.shiftRight_eq_div_pow]

theorem commandWord_toNat (op sel : BitVec 4) (imm : Byte) :
    (commandWord op sel imm).toNat = op.toNat * 4096 + sel.toNat * 256 + imm.toNat := by
  simp [commandWord]; omega

@[simp] theorem opField_commandWord (op sel : BitVec 4) (imm : Byte) : opField (commandWord op sel imm) = op := by
  apply BitVec.eq_of_toNat_eq
  rw [opField_toNat, commandWord_toNat]; omega

@[simp] theorem selField_commandWord (op sel : BitVec 4) (imm : Byte) : selField (commandWord op sel imm) = sel := by
  apply BitVec.eq_of_toNat_eq
  rw [selField_toNat, commandWord_toNat]; omega

@[simp] theorem immField_commandWord (op sel : BitVec 4) (imm : Byte) : immField (commandWord op sel imm) = imm := by
  apply BitVec.eq_of_toNat_eq
  rw [immField_toNat, commandWord_toNat]; omega

theorem commandWord_fields (w : CmdWord) : commandWord (opField w) (selField w) (immField w) = w := by
  apply BitVec.eq_of_toNat_eq
  rw [commandWord_toNat, opField_toNat, selField_toNat, immField_toNat]; omega

/-- A claim about every word is a claim about every triple of fields. -/
theorem forall_commandWord {P : CmdWord → Prop} : (∀ w, P w) ↔ ∀ op sel imm, P (commandWord op sel imm) :=
  ⟨fun h _ _ _ => h _, fun h w => commandWord_fields w ▸ h _ _ _⟩

end Sys2Proof
end

