-- ==== Sys2Proof/Laws/State.lean ====
section
/-! SUPPORT. One lemma per field for each update of the state that the shared operations make, so that no later proof unfolds a
record update. -/

namespace Sys2Proof.Machine

section complete
variable (s : State) (named : OutPorts → OutPorts)

@[simp] theorem complete_cfg : (complete s named).cfg = s.cfg := rfl
@[simp] theorem complete_climate : (complete s named).climate = s.climate := rfl
@[simp] theorem complete_status : (complete s named).status = s.status := rfl
@[simp] theorem complete_inp : (complete s named).inp = s.inp := rfl
@[simp] theorem complete_host : (complete s named).host = s.host := rfl
@[simp] theorem complete_out : (complete s named).out = named (OutPorts.undefined s.freeCtr) := rfl
@[simp] theorem complete_freeCtr : (complete s named).freeCtr = s.freeCtr + 1 := rfl

end complete

section completeSilent
variable (s : State)

@[simp] theorem completeSilent_cfg : (completeSilent s).cfg = s.cfg := rfl
@[simp] theorem completeSilent_climate : (completeSilent s).climate = s.climate := rfl
@[simp] theorem completeSilent_status : (completeSilent s).status = s.status := rfl
@[simp] theorem completeSilent_inp : (completeSilent s).inp = s.inp := rfl
@[simp] theorem completeSilent_host : (completeSilent s).host = s.host := rfl
@[simp] theorem completeSilent_out : (completeSilent s).out = OutPorts.undefined s.freeCtr := rfl
@[simp] theorem completeSilent_freeCtr : (completeSilent s).freeCtr = s.freeCtr + 1 := rfl

end completeSilent

section endWithError
variable (e : DecodeError) (warn : Bool) (named : OutPorts → OutPorts) (s : State)

@[simp] theorem endWithError_cfg : (endWithError e warn named s).cfg = s.cfg := rfl
@[simp] theorem endWithError_climate : (endWithError e warn named s).climate = s.climate := rfl
@[simp] theorem endWithError_status : (endWithError e warn named s).status = errorStatus e warn := rfl
@[simp] theorem endWithError_inp : (endWithError e warn named s).inp = s.inp := rfl
@[simp] theorem endWithError_host : (endWithError e warn named s).host = s.host := rfl
@[simp] theorem endWithError_result : (endWithError e warn named s).out.result = .err e := rfl
@[simp] theorem endWithError_frameOut :
    (endWithError e warn named s).out.frameOut = (named (OutPorts.undefined s.freeCtr)).frameOut := rfl
@[simp] theorem endWithError_freeCtr : (endWithError e warn named s).freeCtr = s.freeCtr + 1 := rfl

end endWithError

section endWithRecord
variable (r : ClimateRecord) (warn : Bool) (named : OutPorts → OutPorts) (s : State)

@[simp] theorem endWithRecord_cfg : (endWithRecord r warn named s).cfg = s.cfg := by simp [endWithRecord]
@[simp] theorem endWithRecord_climate : (endWithRecord r warn named s).climate = s.climate := by simp [endWithRecord]
@[simp] theorem endWithRecord_status : (endWithRecord r warn named s).status = okStatus warn := rfl
@[simp] theorem endWithRecord_inp : (endWithRecord r warn named s).inp = s.inp := by simp [endWithRecord]
@[simp] theorem endWithRecord_host : (endWithRecord r warn named s).host = s.host := by simp [endWithRecord]
@[simp] theorem endWithRecord_result : (endWithRecord r warn named s).out.result = .okRecord r := rfl
@[simp] theorem endWithRecord_cmdOut : (endWithRecord r warn named s).out.cmdOut = r := rfl
@[simp] theorem endWithRecord_frameOut :
    (endWithRecord r warn named s).out.frameOut = (named (OutPorts.undefined s.freeCtr)).frameOut := rfl
@[simp] theorem endWithRecord_freeCtr : (endWithRecord r warn named s).freeCtr = s.freeCtr + 1 := rfl

end endWithRecord

section host
variable (s : State)

@[simp] theorem assertReset_cfg : (assertReset s).cfg = CfgReg.reset := rfl
@[simp] theorem assertReset_climate : (assertReset s).climate = climateReset := rfl
@[simp] theorem assertReset_status : (assertReset s).status = 0#32 := rfl
@[simp] theorem assertReset_inp : (assertReset s).inp = s.inp := rfl
@[simp] theorem assertReset_host : (assertReset s).host = s.host := rfl
@[simp] theorem assertReset_out : (assertReset s).out = OutPorts.undefined s.freeCtr := rfl
@[simp] theorem assertReset_freeCtr : (assertReset s).freeCtr = s.freeCtr + 1 := rfl

variable (t : Transaction) (rest : List HostRequest)

@[simp] theorem present_cfg : (present t rest s).cfg = s.cfg := rfl
@[simp] theorem present_climate : (present t rest s).climate = s.climate := rfl
@[simp] theorem present_status : (present t rest s).status = s.status := rfl
@[simp] theorem present_inp : (present t rest s).inp = drivenPorts s t := rfl
@[simp] theorem present_host : (present t rest s).host = rest := rfl
@[simp] theorem present_out : (present t rest s).out = s.out := rfl
@[simp] theorem present_freeCtr : (present t rest s).freeCtr = s.freeCtr := rfl
@[simp] theorem drivenPorts_cmdw : (drivenPorts s t).cmdw = t.cmdw := rfl

variable (r : HostRequest)

@[simp] theorem enqueueFirst_host : (enqueueFirst r s).host = r :: s.host := rfl
@[simp] theorem enqueueFirst_cfg : (enqueueFirst r s).cfg = s.cfg := rfl
@[simp] theorem enqueueFirst_climate : (enqueueFirst r s).climate = s.climate := rfl
@[simp] theorem enqueueFirst_status : (enqueueFirst r s).status = s.status := rfl
@[simp] theorem dropRequest_host : (dropRequest s).host = s.host.tail := rfl

end host

end Sys2Proof.Machine
end

