-- ==== Sys2Proof/Laws/Frame.lean ====
section
/-! SUPPORT. The frame by its bytes: what a field write does to each byte, and two frames with the same bytes are the same. -/

namespace Sys2Proof.Machine

theorem frame_ext {F G : Frame} (h : ∀ b : Fin 8, F[b] = G[b]) : F = G := by
  apply Vector.ext
  intro i hi
  exact h ⟨i, hi⟩

@[simp] theorem frame_set_getElem_self (F : Frame) (b : Fin 8) (v : Byte) : (F.set b v)[b] = v := by
  simp

theorem frame_set_getElem_ne (F : Frame) {b b' : Fin 8} (v : Byte) (h : b ≠ b') : (F.set b v)[b'] = F[b'] := by
  have : b.val ≠ b'.val := fun e => h (Fin.ext e)
  simp [this]

/-- A field write changes its own byte. -/
theorem frameSet_getElem_self (F : Frame) (f : FrameField) (v : Byte) :
    (frameSet F f v)[fieldByte f] =
      (F[fieldByte f] &&& ~~~(fieldMask f <<< fieldOffset f)) ||| (v <<< fieldOffset f) := by
  simp [frameSet]

/-- A field write changes no other byte. -/
theorem frameSet_getElem_ne (F : Frame) (f : FrameField) (v : Byte) {b : Fin 8} (h : fieldByte f ≠ b) :
    (frameSet F f v)[b] = F[b] := frame_set_getElem_ne F _ h

/-- A field read does not see a write to another byte. -/
theorem frameGet_frameSet_of_byte_ne (F : Frame) (f g : FrameField) (v : Byte) (h : fieldByte f ≠ fieldByte g) :
    frameGet (frameSet F f v) g = frameGet F g := by
  unfold frameGet
  rw [frameSet_getElem_ne F f v h]

/-- A field read depends on its byte alone. -/
theorem frameGet_congr {F G : Frame} (f : FrameField) (h : F[fieldByte f] = G[fieldByte f]) : frameGet F f = frameGet G f := by
  unfold frameGet
  rw [h]

@[simp] theorem zeroFrame_getElem (b : Fin 8) : zeroFrame[b] = 0#8 := by
  simp [zeroFrame]

/-- The checksum does not read byte 7 (40_checksum.md R110). -/
theorem checksum_set_seven (F : Frame) (v : Byte) : checksum (F.set 7 v) = checksum F := by
  simp [checksum, checksumAcc]

end Sys2Proof.Machine
end

