-- ==== Sys2Proof/Laws/Ops.lean ====
section
/-! SUPPORT. What each meaning can answer, once: when it gives a next state and which, and when it refuses. Later proofs cite these
and do not unfold the meanings. -/

namespace Sys2Proof.Machine

theorem profileLegal_eq_true (p : TimingProfile) :
    profileLegal p = true ↔ p.headerMark ≠ 0#32 ∧ p.headerSpace ≠ 0#32 ∧ p.bitMark ≠ 0#32 ∧ p.oneSpace ≠ 0#32 ∧
      p.zeroSpace ≠ 0#32 ∧ p.messageSpace ≠ 0#32 := by
  simp [profileLegal, and_assoc]

theorem profileLegal_profileOf (m : Model) : profileLegal (profileOf m) = true := by cases m <;> decide

theorem modelOf_modelCode (m : Model) : modelOf (modelCode m).toNat = some m := by cases m <;> rfl

theorem modelOf_eq_some {n : Nat} {m : Model} : modelOf n = some m ↔ n = (modelCode m).toNat := by
  constructor
  · intro h
    rcases n with _ | _ | _ | _ | _ | n <;> simp_all [modelOf] <;> subst h <;> rfl
  · rintro rfl
    exact modelOf_modelCode m

theorem modelOf_eq_none {n : Nat} : modelOf n = none ↔ 5 ≤ n := by
  rcases n with _ | _ | _ | _ | _ | n <;> simp [modelOf]

/-! ### The lines of `CMD_OUT` -/

/-- A record that has a packed form shows it, whatever the free bits are. -/
theorem recordLines_of_packRecord {r : ClimateRecord} {w : CmdWord} (free : CmdWord) (h : packRecord r = some w) :
    recordLines free r = w := by
  simp [recordLines, h]

/-- With every field ⊥ the lines are the free bits, all sixteen of them. -/
theorem recordLines_unwritten (free : CmdWord) : recordLines free ⟨none, none, none, none, none, none⟩ = free := by
  apply BitVec.eq_of_toNat_eq
  simp [recordLines, packRecord, packFields, Nat.shiftRight_eq_div_pow]
  omega

/-! ### `PACK`'s result -/

theorem packResult_ok {s : State} {F : Frame} : packResult s = .ok F ↔
    ∃ c m w, unpackCommand s.inp.cmdIn = some c ∧ s.cfg.model = some m ∧ s.cfg.wifi = some w ∧ 16 ≤ c.temp.toNat ∧
      c.temp.toNat ≤ 30 ∧ ¬(c.power = .on ∧ c.mode = .off) ∧ packFrame c m w = F := by
  unfold packResult
  rcases unpackCommand s.inp.cmdIn with _ | c
  · simp
  rcases s.cfg.model with _ | m
  · simp
  rcases s.cfg.wifi with _ | w
  · simp
  simp only [Option.some.injEq, ← and_assoc]
  by_cases h : 16 ≤ c.temp.toNat ∧ c.temp.toNat ≤ 30 <;> by_cases h' : c.power = .on ∧ c.mode = .off <;> simp [h, h']

theorem packResult_error {s : State} {r : Refusal} : packResult s = .error r ↔
    (r = .badCommandWord ∧ unpackCommand s.inp.cmdIn = none) ∨
    ∃ c, unpackCommand s.inp.cmdIn = some c ∧
      ((r = .cfgUnwritten ∧ (s.cfg.model = none ∨ s.cfg.wifi = none)) ∨
        (s.cfg.model ≠ none ∧ s.cfg.wifi ≠ none ∧
          ((r = .tempOutOfRange ∧ ¬(16 ≤ c.temp.toNat ∧ c.temp.toNat ≤ 30)) ∨
            (r = .powerOnModeOff ∧ (16 ≤ c.temp.toNat ∧ c.temp.toNat ≤ 30) ∧ c.power = .on ∧ c.mode = .off)))) := by
  unfold packResult
  rcases unpackCommand s.inp.cmdIn with _ | c
  · simp [eq_comm]
  rcases s.cfg.model with _ | m
  · simp [eq_comm]
  rcases s.cfg.wifi with _ | w
  · simp [eq_comm]
  by_cases h : 16 ≤ c.temp.toNat ∧ c.temp.toNat ≤ 30 <;> by_cases h' : c.power = .on ∧ c.mode = .off <;>
    simp [h, h', eq_comm (a := r)]
  all_goals (intro _ _; omega)

/-! ### When a meaning gives a next state, and which -/

section next
variable {s t : State}

theorem execCsum_next : execCsum s = .next t ↔ complete s (fun o => { o with csumOut := checksum s.inp.frameIn }) = t := by
  simp [execCsum]

theorem execPack_next : execPack s = .next t ↔
    ∃ F, packResult s = .ok F ∧ complete s (fun o => { o with frameOut := F }) = t := by
  unfold execPack
  cases packResult s <;> simp

theorem execUnpack_next : execUnpack s = .next t ↔
    ∃ strict, s.cfg.strict = some strict ∧
      ((∃ e, unpackFrame s.inp.frameIn strict s.climate = .error e ∧
          endWithError e (frameWarn s.inp.frameIn strict) id s = t) ∨
        ∃ r, unpackFrame s.inp.frameIn strict s.climate = .ok r ∧
          endWithRecord r (frameWarn s.inp.frameIn strict) id s = t) := by
  unfold execUnpack
  rcases s.cfg.strict with _ | strict
  · simp
  cases h : unpackFrame s.inp.frameIn strict s.climate <;> simp [h]

theorem execResolve_next {model : BitVec 3} : execResolve model s = .next t ↔
    ∃ m, modelOf model.toNat = some m ∧ complete s (fun o => { o with profileOut := profileOf m }) = t := by
  unfold execResolve
  cases modelOf model.toNat <;> simp

theorem execEncp_next {count : Byte} : execEncp count s = .next t ↔
    count ≠ 0#8 ∧ profileLegal s.inp.profileIn = true ∧
      complete s (fun o => { o with
        pulseOut := repetitions s.inp.profileIn s.inp.frameIn count.toNat, carrierOut := Config.carrierHz }) = t := by
  unfold execEncp
  by_cases h : count = 0#8 <;> by_cases h' : profileLegal s.inp.profileIn = true <;> simp [h, h']

theorem execTx_next : execTx s = .next t ↔
    ∃ m w n F, s.cfg.model = some m ∧ s.cfg.wifi = some w ∧ s.cfg.repeats = some n ∧ packResult s = .ok F ∧
      complete s (fun o => { o with
        frameOut := F, pulseOut := repetitions (profileOf m) F n.toNat, carrierOut := Config.carrierHz }) = t := by
  unfold execTx
  rcases s.cfg.model with _ | m
  · simp
  rcases s.cfg.wifi with _ | w
  · simp
  rcases s.cfg.repeats with _ | n
  · simp
  cases packResult s <;> simp

theorem execDecp_next : execDecp s = .next t ↔
    profileLegal s.inp.profileIn = true ∧
      ((∃ e, decodePulses Config.tolPct s.inp.profileIn s.inp.pulseIn = .error e ∧ endWithError e false id s = t) ∨
        ∃ F, decodePulses Config.tolPct s.inp.profileIn s.inp.pulseIn = .ok F ∧
          complete { s with status := okStatus false } (fun o => { o with frameOut := F, result := .okFrame F }) = t) := by
  unfold execDecp
  cases h : decodePulses Config.tolPct s.inp.profileIn s.inp.pulseIn <;>
    by_cases h' : profileLegal s.inp.profileIn = true <;> simp [h']

theorem execRx_next : execRx s = .next t ↔
    ∃ m strict, s.cfg.model = some m ∧ s.cfg.strict = some strict ∧
      ((∃ e, decodePulses Config.tolPct (profileOf m) s.inp.pulseIn = .error e ∧ endWithError e false id s = t) ∨
        ∃ F, decodePulses Config.tolPct (profileOf m) s.inp.pulseIn = .ok F ∧
          ((∃ e, unpackFrame F strict s.climate = .error e ∧
              endWithError e (frameWarn F strict) (fun o => { o with frameOut := F }) s = t) ∨
            ∃ r, unpackFrame F strict s.climate = .ok r ∧
              endWithRecord r (frameWarn F strict) (fun o => { o with frameOut := F }) { s with climate := r } = t)) := by
  unfold execRx
  rcases s.cfg.model with _ | m
  · simp
  rcases s.cfg.strict with _ | strict
  · simp
  cases h : decodePulses Config.tolPct (profileOf m) s.inp.pulseIn with
  | error e => simp [h]
  | ok F => cases h' : unpackFrame F strict s.climate <;> simp [h, h']

theorem execCfgModel_next {value : Byte} : execCfgModel value s = .next t ↔
    ∃ m, modelOf value.toNat = some m ∧ s.cfg.model = none ∧
      completeSilent { s with cfg := { s.cfg with model := some m } } = t := by
  unfold execCfgModel
  rcases modelOf value.toNat with _ | m
  · simp
  cases s.cfg.model <;> simp

theorem execCfgStrict_next {value : Byte} : execCfgStrict value s = .next t ↔
    value.toNat ≤ 1 ∧ completeSilent { s with cfg := { s.cfg with strict := some (decide (value = 1#8)) } } = t := by
  unfold execCfgStrict
  by_cases h : value.toNat > 1
  · simp [h]
  · simp [h]; omega

theorem execCfgWifi_next {value : Byte} : execCfgWifi value s = .next t ↔
    value.toNat ≤ 1 ∧ completeSilent { s with cfg := { s.cfg with wifi := some (decide (value = 1#8)) } } = t := by
  unfold execCfgWifi
  by_cases h : value.toNat > 1
  · simp [h]
  · simp [h]; omega

theorem execCfgRepeat_next {value : Byte} : execCfgRepeat value s = .next t ↔
    value ≠ 0#8 ∧ completeSilent { s with cfg := { s.cfg with repeats := some value } } = t := by
  unfold execCfgRepeat
  by_cases h : value = 0#8 <;> simp [h]

theorem execSetst_next : execSetst s = .next t ↔
    ∃ c, unpackCommand s.inp.cmdIn = some c ∧ setstLegal c = true ∧ completeSilent { s with climate := recordOf c } = t := by
  unfold execSetst
  rcases unpackCommand s.inp.cmdIn with _ | c
  · simp
  by_cases h : setstLegal c = true <;> simp [h]

theorem execGetst_next : execGetst s = .next t ↔
    recordWritten s.climate = true ∧ complete s (fun o => { o with cmdOut := s.climate }) = t := by
  unfold execGetst
  by_cases h : recordWritten s.climate = true <;> simp [h]

/-- What one step can answer. -/
theorem step_next : step s = .next t ↔
    (s.host = [] ∧ s = t) ∨ (∃ rest, s.host = .reset :: rest ∧ assertReset { s with host := rest } = t) ∨
      ∃ tr rest i, s.host = .command tr :: rest ∧ decode tr.cmdw = .ok i ∧ exec i (present tr rest s) = .next t := by
  unfold step runTransaction
  rcases h : s.host with _ | ⟨⟨tr⟩ | _, rest⟩
  · simp
  · cases h' : decode tr.cmdw <;> simp [h']
  · simp

end next

end Sys2Proof.Machine
end

