-- ==== Sys2Proof/Laws/PerInstr.lean ====
section
/-! SUPPORT. Per command: its encoding matches its own row of opcode_table.json, and the row's operand bits give the command back
(30_encoding.md R86). -/

namespace Sys2Proof.Laws.EncodeRow

open Sys2Proof.Machine

/-- `i`'s word matches `i`'s row, and the row reads `i` from it. -/
def Statement (i : Instr) : Prop :=
  ∃ row, opcodeRows[rowIndex i]? = some row ∧ encode i &&& row.mask = row.pattern ∧ row.command (encode i) = i

theorem csum : Statement .csum := ⟨_, rfl, rfl, rfl⟩

theorem pack : Statement .pack := ⟨_, rfl, rfl, rfl⟩

theorem unpack : Statement .unpack := ⟨_, rfl, rfl, rfl⟩

theorem resolve (model : BitVec 3) : Statement (.resolve model) :=
  ⟨_, rfl, by revert model; decide, by revert model; decide⟩

theorem encp (count : Byte) : Statement (.encp count) :=
  ⟨_, rfl, by revert count; decide +kernel, by revert count; decide +kernel⟩

theorem decp : Statement .decp := ⟨_, rfl, rfl, rfl⟩

theorem tx : Statement .tx := ⟨_, rfl, rfl, rfl⟩

theorem rx : Statement .rx := ⟨_, rfl, rfl, rfl⟩

theorem cfgModel (value : Byte) : Statement (.cfgModel value) :=
  ⟨_, rfl, by revert value; decide +kernel, by revert value; decide +kernel⟩

theorem cfgStrict (value : Byte) : Statement (.cfgStrict value) :=
  ⟨_, rfl, by revert value; decide +kernel, by revert value; decide +kernel⟩

theorem cfgWifi (value : Byte) : Statement (.cfgWifi value) :=
  ⟨_, rfl, by revert value; decide +kernel, by revert value; decide +kernel⟩

theorem cfgRepeat (value : Byte) : Statement (.cfgRepeat value) :=
  ⟨_, rfl, by revert value; decide +kernel, by revert value; decide +kernel⟩

theorem setst : Statement .setst := ⟨_, rfl, rfl, rfl⟩

theorem getst : Statement .getst := ⟨_, rfl, rfl, rfl⟩

end Sys2Proof.Laws.EncodeRow
end

