-- ==== Sys2Proof/Laws/Pulse.lean ====
section
/-! SUPPORT. The encoder's sequences (their lengths) and the decoder's primitives (`Match`, `Pair`, the bit cell) on a sequence put
together from parts. -/

namespace Sys2Proof.Machine

/-! ### Lengths (30_encoding.md R82, 43_pulse_encoder.md R165) -/

@[simp] theorem pulsePair_length (m s : Dur) : (pulsePair m s).length = 2 := rfl

@[simp] theorem bitCell_length (p : TimingProfile) (v : Bool) : (bitCell p v).length = 2 := rfl

@[simp] theorem messageCell_length (p : TimingProfile) : (messageCell p).length = 2 := rfl

@[simp] theorem byteCells_length (p : TimingProfile) (b : Byte) (ks : List Nat) : (byteCells p b ks).length = 2 * ks.length := by
  induction ks with
  | nil => rfl
  | cons k ks ih => simp [byteCells, ih]; omega

@[simp] theorem frameCells_length (p : TimingProfile) (F : Frame) (bs : List (Fin 8)) :
    (frameCells p F bs).length = 16 * bs.length := by
  induction bs with
  | nil => rfl
  | cons b bs ih => simp [frameCells, ih, lsbFirst]; omega

@[simp] theorem footerCells_length (p : TimingProfile) : (footerCells p).length = 6 := rfl

@[simp] theorem repetition_length (p : TimingProfile) (F : Frame) : (repetition p F).length = 140 := by
  simp [repetition]

@[simp] theorem repetitions_length (p : TimingProfile) (F : Frame) (n : Nat) : (repetitions p F n).length = 140 * n := by
  induction n with
  | zero => rfl
  | succ n ih => simp [repetitions, ih]; omega

/-! ### `Match` (44_pulse_decoder.md R181) -/

theorem durMatch_eq_true {tol : Nat} {d nom : Dur} : durMatch tol d nom = true ↔
    nom.toNat * (100 - tol) ≤ 100 * d.toNat ∧ 100 * d.toNat ≤ nom.toNat * (100 + tol) := by
  simp [durMatch]

/-- A duration matches itself under every tolerance. -/
theorem durMatch_self (tol : Nat) (d : Dur) : durMatch tol d d = true := by
  rw [durMatch_eq_true, Nat.mul_comm 100]
  exact ⟨Nat.mul_le_mul_left _ (by omega), Nat.mul_le_mul_left _ (by omega)⟩

/-! ### `Pair` and the bit cell (44_pulse_decoder.md R182, R185) -/

/-- The entries before a place do not matter to the pair there. -/
theorem pairAt_append_right (tol : Nat) (A B : PulseSeq) (i : Nat) (m s : Dur) :
    pairAt tol (A ++ B) (A.length + i) m s = pairAt tol B i m s := by
  unfold pairAt
  rw [Nat.add_assoc, List.getElem?_append_right (Nat.le_add_right _ _), List.getElem?_append_right (Nat.le_add_right _ _),
    Nat.add_sub_cancel_left, Nat.add_sub_cancel_left]

/-- The entries after a pair do not matter to it. -/
theorem pairAt_append_left (tol : Nat) (A B : PulseSeq) (i : Nat) (m s : Dur) (h : i + 1 < A.length) :
    pairAt tol (A ++ B) i m s = pairAt tol A i m s := by
  simp [pairAt, List.getElem?_append_left h, List.getElem?_append_left (Nat.lt_of_succ_lt h)]

/-- An encoded pair at the front. -/
theorem pairAt_pulsePair_zero (tol : Nat) (m s m' s' : Dur) (B : PulseSeq) :
    pairAt tol (pulsePair m s ++ B) 0 m' s' = (durMatch tol m m' && durMatch tol s s') := by
  simp [pairAt, pulsePair]

/-- A pair that reaches past the end does not match. -/
theorem pairAt_of_length_le (tol : Nat) (P : PulseSeq) (i : Nat) (m s : Dur) (h : P.length ≤ i + 1) :
    pairAt tol P i m s = false := by
  simp [pairAt, List.getElem?_eq_none h]

theorem readCell_append_right (tol : Nat) (p : TimingProfile) (A B : PulseSeq) (i : Nat) :
    readCell tol p (A ++ B) (A.length + i) = readCell tol p B i := by
  simp [readCell, pairAt_append_right]

theorem readCell_append_left (tol : Nat) (p : TimingProfile) (A B : PulseSeq) (i : Nat) (h : i + 1 < A.length) :
    readCell tol p (A ++ B) i = readCell tol p A i := by
  simp [readCell, pairAt_append_left tol A B i _ _ h]

theorem readCell_true {tol : Nat} {p : TimingProfile} {P : PulseSeq} {i : Nat} :
    readCell tol p P i = some true ↔ pairAt tol P i p.bitMark p.oneSpace = true := by
  unfold readCell
  split
  · simp [*]
  · split <;> simp_all

theorem readCell_false {tol : Nat} {p : TimingProfile} {P : PulseSeq} {i : Nat} :
    readCell tol p P i = some false ↔
      pairAt tol P i p.bitMark p.oneSpace = false ∧ pairAt tol P i p.bitMark p.zeroSpace = true := by
  unfold readCell
  split
  · simp [*]
  · split <;> simp_all

theorem readCell_none {tol : Nat} {p : TimingProfile} {P : PulseSeq} {i : Nat} :
    readCell tol p P i = none ↔
      pairAt tol P i p.bitMark p.oneSpace = false ∧ pairAt tol P i p.bitMark p.zeroSpace = false := by
  unfold readCell
  split
  · simp [*]
  · split <;> simp_all

end Sys2Proof.Machine
end

