-- ==== Sys2Proof/Laws/Status.lean ====
section
/-! SUPPORT. The `STATUS` words as numbers (10_state.md R25). -/

namespace Sys2Proof.Machine

theorem statusWord_toNat (err : BitVec 4) (warn : Bool) (errByte errBit : BitVec 3) (errA errB : BitVec 4) :
    (statusWord err warn errByte errBit errA errB).toNat =
      err.toNat + warn.toNat * 2 ^ 4 + errByte.toNat * 2 ^ 5 + errBit.toNat * 2 ^ 8 + errA.toNat * 2 ^ 12 +
        errB.toNat * 2 ^ 16 := by
  have : warn.toNat ≤ 1 := Bool.toNat_le warn
  rw [statusWord, BitVec.toNat_ofNat, Nat.mod_eq_of_lt]
  omega

theorem okStatus_toNat (warn : Bool) : (okStatus warn).toNat = warn.toNat * 2 ^ 4 := by
  simp [okStatus, statusWord_toNat]

/-- The word of an error is the sum of its parts, with the warning bit. -/
theorem errorStatus_toNat (e : DecodeError) (warn : Bool) : (errorStatus e warn).toNat = errorWord e + warn.toNat * 2 ^ 4 := by
  rw [errorStatus, statusWord_toNat]
  cases e <;>
    simp only [errorCode, errorByteField, errorBitField, errorFieldA, errorFieldB, errorWord, BitVec.toNat_ofNat,
      BitVec.toNat_ofFin, BitVec.toNat_setWidth] <;>
    omega

end Sys2Proof.Machine
end

