-- ==== Sys2Proof/Tests/Slice0.lean ====
section
/-! SUPPORT. The model's own tests, then a witness for the hypotheses of every statement. Expected results are the spec's: the vector
of 95_test_vectors.md is named at each test. -/

namespace Sys2Proof.Tests

/- One theorem at a time: the package compiles as one text, and a thread per theorem would not fit its memory. -/
set_option Elab.async false

open Sys2Proof.Machine

/-! ### Helpers -/

/-- The outcome is a next state with the property. -/
def answers (o : StepOutcome) (p : State → Bool) : Bool :=
  match o with
  | .next t => p t
  | .fault _ => false
  | .refused _ => false

/-- The outcome is the refusal. -/
def refuses (o : StepOutcome) (r : Refusal) : Bool :=
  match o with
  | .next _ => false
  | .fault _ => false
  | .refused r' => decide (r' = r)

/-- A configured block. -/
def configured (m : Model) (strict wifi : Bool) (n : Byte) : State :=
  { State.reset with cfg := ⟨some m, some strict, some wifi, some n⟩ }

/-- The block with a command record on `CMD_IN`. -/
def withCmd (w : CmdWord) (s : State) : State := { s with inp := { s.inp with cmdIn := w } }

/-- The block with a frame on `FRAME_IN`. -/
def withFrame (F : Frame) (s : State) : State := { s with inp := { s.inp with frameIn := F } }

/-- The block with a sequence on `PULSE_IN`. -/
def withPulses (P : PulseSeq) (s : State) : State := { s with inp := { s.inp with pulseIn := P } }

/-- The block with a profile on `PROFILE_IN`. -/
def withProfile (p : TimingProfile) (s : State) : State := { s with inp := { s.inp with profileIn := p } }

/-- The block with a climate state. -/
def withClimate (r : ClimateRecord) (s : State) : State := { s with climate := r }

/-- The block whose host has something to do. -/
def withHost (h : List HostRequest) (s : State) : State := { s with host := h }

/-- `S0` of 95_test_vectors.md. -/
def s0 : ClimateRecord := ⟨some .on, some .heat, some 22#5, some .low, some .off, some .none⟩

/-- {ON, COOL, 24, HIGH, BOTH, NONE} as a record. -/
def coolRecord : ClimateRecord := ⟨some .on, some .cool, some 24#5, some .high, some .both, some .none⟩

/-- The frame of W1. -/
def w1 : Frame := #v[0x79#8, 0x08#8, 0x20#8, 0x50#8, 0x11#8, 0x20#8, 0x00#8, 0xE0#8]

/-- The frame of V-PK-9, power off. -/
def offFrame : Frame := #v[0x00#8, 0x00#8, 0x60#8, 0x50#8, 0x00#8, 0x60#8, 0x00#8, 0x00#8]

/-- The sequence V1, checked against V-EN-1 by `test_encp_v_en_1`. -/
def v1 : PulseSeq := repetition (profileOf .generic) w1

/-- `P` with the duration of entry `i` set to `d` (95_test_vectors.md 2.6). -/
def setDur (P : PulseSeq) (i : Nat) (d : Dur) : PulseSeq := P.modify i fun e => { e with dur := d }

/-- V1[133, 135, 137 := 540], the frame `79 08 20 50 11 20 00 00`. -/
def v1BadSum : PulseSeq := setDur (setDur (setDur v1 133 540#32) 135 540#32) 137 540#32

@[simp] theorem withPulses_pulseIn (P : PulseSeq) (s : State) : (withPulses P s).inp.pulseIn = P := rfl
@[simp] theorem withPulses_cfg (P : PulseSeq) (s : State) : (withPulses P s).cfg = s.cfg := rfl
@[simp] theorem withPulses_climate (P : PulseSeq) (s : State) : (withPulses P s).climate = s.climate := rfl
@[simp] theorem withClimate_climate (r : ClimateRecord) (s : State) : (withClimate r s).climate = r := rfl
@[simp] theorem withClimate_cfg (r : ClimateRecord) (s : State) : (withClimate r s).cfg = s.cfg := rfl
@[simp] theorem configured_cfg (m : Model) (strict wifi : Bool) (n : Byte) :
    (configured m strict wifi n).cfg = ⟨some m, some strict, some wifi, some n⟩ := rfl

/-- A bare command. -/
def bare (w : CmdWord) : HostRequest := .command (bareTransaction w)

/-! ### WellFormed: an ill-formed term for each check -/

theorem test_wf_resolve : Instr.wellFormed (.resolve 5#3) = false ∧ Instr.wellFormed (.resolve 4#3) = true := by decide
theorem test_wf_encp : Instr.wellFormed (.encp 0#8) = false ∧ Instr.wellFormed (.encp 255#8) = true := by decide
theorem test_wf_cfgModel : Instr.wellFormed (.cfgModel 5#8) = false ∧ Instr.wellFormed (.cfgModel 4#8) = true := by decide
theorem test_wf_cfgStrict : Instr.wellFormed (.cfgStrict 2#8) = false ∧ Instr.wellFormed (.cfgStrict 1#8) = true := by decide
theorem test_wf_cfgWifi : Instr.wellFormed (.cfgWifi 2#8) = false ∧ Instr.wellFormed (.cfgWifi 1#8) = true := by decide
theorem test_wf_cfgRepeat : Instr.wellFormed (.cfgRepeat 0#8) = false ∧ Instr.wellFormed (.cfgRepeat 1#8) = true := by decide

/-! ### Decode: a word of each row from its encoding (30_encoding.md R86, R87), and reserved words (R89) -/

theorem test_decode_csum : decode 0b0001_0000_00000000#16 = .ok .csum := by decide
theorem test_decode_pack : decode 0b0010_0000_00000000#16 = .ok .pack := by decide
theorem test_decode_unpack : decode 0b0011_0000_00000000#16 = .ok .unpack := by decide
theorem test_decode_resolve : decode 0b0100_0000_00000110#16 = .ok (.resolve 0b110#3) := by decide
theorem test_decode_encp : decode 0b0101_0000_10000010#16 = .ok (.encp 0b10000010#8) := by decide
theorem test_decode_decp : decode 0b0110_0000_00000000#16 = .ok .decp := by decide
theorem test_decode_tx : decode 0b0111_0000_00000000#16 = .ok .tx := by decide
theorem test_decode_rx : decode 0b1000_0000_00000000#16 = .ok .rx := by decide
theorem test_decode_cfgModel : decode 0b1001_0000_00000011#16 = .ok (.cfgModel 3#8) := by decide
theorem test_decode_cfgStrict : decode 0b1001_0001_10000001#16 = .ok (.cfgStrict 0b10000001#8) := by decide
theorem test_decode_cfgWifi : decode 0b1001_0010_00000001#16 = .ok (.cfgWifi 1#8) := by decide
theorem test_decode_cfgRepeat : decode 0b1001_0011_11111110#16 = .ok (.cfgRepeat 254#8) := by decide
theorem test_decode_setst : decode 0b1010_0000_00000000#16 = .ok .setst := by decide
theorem test_decode_getst : decode 0b1011_0000_00000000#16 = .ok .getst := by decide

/-- 95_test_vectors.md 2.10. -/
theorem test_decode_reserved :
    decode 0x0000#16 = .error .illegalCommand ∧
    decode 0xC000#16 = .error .illegalCommand ∧
    decode 0xD123#16 = .error .illegalCommand ∧
    decode 0xE000#16 = .error .illegalCommand ∧
    decode 0xFFFF#16 = .error .illegalCommand ∧
    decode 0x1001#16 = .error .illegalCommand ∧
    decode 0x7100#16 = .error .illegalCommand ∧
    decode 0xB001#16 = .error .illegalCommand := by decide

/-- V-RS-7, V-RS-8, V-CF-10. -/
theorem test_decode_fields : decode 0x4008#16 = .error .modelReserved ∧ decode 0x4100#16 = .error .illegalCommand ∧
    decode 0x9400#16 = .error .illegalCommand := by decide

/-- Where R238 gives two reasons and no order, `SEL` decides (log 11): the model's choice. -/
theorem test_decode_sel_first : decode 0x5100#16 = .error .illegalCommand ∧ decode 0x4108#16 = .error .illegalCommand := by decide

/-- V-UP-23: the written fields of a record without a packed form show their codes (OFF, OFF), the rest is free. -/
theorem test_record_lines :
    recordLines 0xFFFF#16 ⟨some .off, some .off, none, none, none, none⟩ = 0xFFFA#16 ∧
      recordLines 0x0000#16 ⟨some .off, some .off, none, none, none, none⟩ = 0x000A#16 ∧ recordLines 0xFFFF#16 s0 = 0x0363#16 := by decide

/-- The packed words of P1, P2, P3 and V-PK-6. -/
theorem test_packed_record :
    packCommand ⟨.on, .cool, 24#5, .speed .high, .both, .none⟩ = 0x3781#16 ∧ packRecord s0 = some 0x0363#16 ∧
      packCommand ⟨.on, .heat, 30#5, .speed .low, .off, .sleep⟩ = 0x43E3#16 ∧
      unpackCommand 0x1907#16 = some ⟨.on, .dry, 16#5, .absent, .vertical, .none⟩ := by decide

/-! ### The commands -/

/-- V-CS-2, V-CS-4. -/
theorem test_csum :
    answers (exec .csum (withFrame (Vector.replicate 8 0xFF#8) State.reset)) (fun t => t.out.csumOut = 3#4) = true ∧
      answers (exec .csum (withFrame w1 State.reset)) (fun t => t.out.csumOut = 14#4) = true := by decide +kernel

/-- V-CS-6, V-CS-5: byte 0 bit 0 is read, bit 4 is not. -/
theorem test_csum_bits :
    checksum #v[0x78#8, 0x08#8, 0x20#8, 0x50#8, 0x11#8, 0x20#8, 0x00#8, 0xE0#8] = 13#4 ∧
      checksum #v[0x69#8, 0x08#8, 0x20#8, 0x50#8, 0x11#8, 0x20#8, 0x00#8, 0xE0#8] = 14#4 := by decide +kernel

/-- V-PK-1, V-PK-6. -/
theorem test_pack_frames :
    answers (exec .pack (withCmd 0x3781#16 (configured .generic true false 1#8))) (fun t => t.out.frameOut = w1) = true ∧
      answers (exec .pack (withCmd 0x1907#16 (configured .yac1fb9 true false 1#8))) (fun t =>
        t.out.frameOut = #v[0x4A#8, 0x00#8, 0x60#8, 0x50#8, 0x01#8, 0x20#8, 0x00#8, 0x60#8]) = true := by decide +kernel

/-- V-PK-10 to V-PK-14. -/
theorem test_pack_refused :
    refuses (exec .pack (withCmd 0x37F1#16 (configured .generic true false 1#8))) .tempOutOfRange = true ∧
      refuses (exec .pack (withCmd 0x018B#16 (configured .generic true false 1#8))) .powerOnModeOff = true ∧
      refuses (exec .pack (withCmd 0x3781#16 State.reset)) .cfgUnwritten = true ∧
      refuses (exec .pack (withCmd 0x378D#16 (configured .generic true false 1#8))) .badCommandWord = true ∧
      refuses (exec .pack (withCmd 0xB781#16 (configured .generic true false 1#8))) .badCommandWord = true := by decide +kernel

/-- V-UP-2, V-UP-18. -/
theorem test_unpack_mismatch :
    answers (exec .unpack (withFrame #v[0x79#8, 0x08#8, 0x20#8, 0x50#8, 0x11#8, 0x20#8, 0x00#8, 0x00#8]
        (withClimate s0 (configured .generic true false 1#8)))) (fun t =>
        t.out.result = .err (.checksumMismatch 14#4 0#4) ∧ t.status = 0xE008#32 ∧ t.climate = s0) = true ∧
      answers (exec .unpack (withFrame #v[0x79#8, 0x08#8, 0x20#8, 0x50#8, 0x11#8, 0x00#8, 0x00#8, 0xE0#8]
        (configured .generic true false 1#8))) (fun t => t.status = 0xEC008#32) = true := by decide +kernel

/-- V-UP-8, V-UP-6. -/
theorem test_unpack_power :
    answers (exec .unpack (withFrame #v[0xF7#8, 0x0F#8, 0x20#8, 0x50#8, 0x11#8, 0x20#8, 0x00#8, 0x30#8]
        (withClimate s0 (configured .generic true false 1#8)))) (fun t =>
        t.out.result = .okRecord ⟨some .off, some .off, some 22#5, some .low, some .off, some .none⟩ ∧ t.status = 0#32) = true ∧
      answers (exec .unpack (withFrame #v[0x7D#8, 0x08#8, 0x20#8, 0x50#8, 0x11#8, 0x20#8, 0x00#8, 0x00#8]
        (configured .generic false false 1#8))) (fun t =>
        t.out.result = .err (.unknownMode 5#3) ∧ t.status = 0x5017#32) = true := by decide +kernel

/-- V-RS-4, V-RS-6. -/
theorem test_resolve :
    answers (exec (.resolve 3#3) State.reset)
        (fun t => t.out.profileOut = ⟨9000#32, 4500#32, 620#32, 1600#32, 540#32, 19800#32⟩) = true ∧
      refuses (exec (.resolve 5#3) State.reset) .modelReserved = true := by decide +kernel

/-- V-EN-1: the entry checks, the ones and the total duration. -/
theorem test_encp_v_en_1 :
    answers (exec (.encp 1#8) (withFrame w1 (withProfile (profileOf .generic) State.reset))) (fun t =>
      t.out.pulseOut = v1 ∧ t.out.carrierOut = 38000 ∧ v1.length = 140 ∧
        (v1.map fun e => e.dur.toNat).sum = 146920 ∧ v1.countP (fun e => e = ⟨.space, 1600#32⟩) = 16 ∧
        v1.take 6 = [⟨.mark, 9000#32⟩, ⟨.space, 4000#32⟩, ⟨.mark, 620#32⟩, ⟨.space, 1600#32⟩, ⟨.mark, 620#32⟩, ⟨.space, 540#32⟩] ∧
        (v1.drop 66).take 8 = [⟨.mark, 620#32⟩, ⟨.space, 540#32⟩, ⟨.mark, 620#32⟩, ⟨.space, 1600#32⟩, ⟨.mark, 620#32⟩,
          ⟨.space, 540#32⟩, ⟨.mark, 620#32⟩, ⟨.space, 19000#32⟩] ∧
        v1.drop 138 = [⟨.mark, 620#32⟩, ⟨.space, 19000#32⟩]) = true := by decide +kernel

/-- V-EN-4, V-EN-8. -/
theorem test_encp_count :
    answers (exec (.encp 2#8) (withFrame w1 (withProfile (profileOf .generic) State.reset))) (fun t => t.out.pulseOut = v1 ++ v1) = true ∧
      refuses (exec (.encp 0#8) (withProfile (profileOf .generic) State.reset)) .repeatZero = true ∧
      refuses (exec (.encp 1#8) (withProfile ⟨9000#32, 4000#32, 0#32, 1600#32, 540#32, 19000#32⟩ State.reset)) .badProfile = true := by
  decide +kernel

/-- V-TX-3. -/
theorem test_tx :
    answers (exec .tx (withCmd 0x3781#16 (configured .generic true false 3#8))) (fun t =>
      t.out.frameOut = w1 ∧ t.out.pulseOut = v1 ++ v1 ++ v1 ∧ t.out.carrierOut = 38000) = true := by decide +kernel

/-- V-TX-5, V-TX-6. -/
theorem test_tx_refused :
    refuses (exec .tx (withCmd 0x3781#16 { State.reset with cfg := ⟨some .generic, none, some false, none⟩ })) .cfgUnwritten = true ∧
      refuses (exec .tx (withCmd 0x37F1#16 (configured .generic true false 1#8))) .tempOutOfRange = true := by decide +kernel

/-- V-DEC-1, V-DEC-9, V-DEC-7, V-DEC-14, V-DEC-17, V-DEC-28, V-DEC-30, V-DEC-32, V-DEC-34, for every tolerance. -/
theorem test_decode_pulses_any : ∀ tol : Fin 21,
    decodePulses tol (profileOf .generic) v1 = .ok w1 ∧ decodePulses tol (profileOf .generic) (v1.take 138) = .ok w1 ∧
      decodePulses tol (profileOf .generic) (v1.take 135) = .error (.bitDecode 7 6) ∧
      decodePulses tol (profileOf .generic) (setDur v1 0 10801#32) = .error .headerMismatch ∧
      decodePulses tol (profileOf .generic) (setDur v1 3 1000#32) = .error (.bitDecode 0 0) ∧
      decodePulses tol (profileOf .generic) (setDur v1 69 540#32) = .error .footerMismatch ∧
      decodePulses tol (profileOf .generic) (setDur v1 73 1600#32) = .error .messageSpaceMismatch ∧
      decodePulses tol (profileOf .generic) (setDur v1 75 1000#32) = .error (.bitDecode 4 0) ∧
      decodePulses tol (profileOf .generic) (setDur (setDur v1 138 1#32) 139 1#32) = .ok w1 := by decide +kernel

/-- V-DEC-11, V-DEC-12, V-DEC-25, V-DEC-26. -/
theorem test_decode_pulses_edges :
    decodePulses 20 (profileOf .generic) (setDur v1 0 10800#32) = .ok w1 ∧
      decodePulses 10 (profileOf .generic) (setDur v1 0 10800#32) = .error .headerMismatch ∧
      decodePulses 20 (profileOf .generic) (setDur v1 3 648#32) = .ok (w1.set 0 0x78#8) ∧
      decodePulses 20 (profileOf .generic) (setDur v1 3 649#32) = .error (.bitDecode 0 0) := by decide +kernel

/-- V-DEC-2, V-DEC-3, V-DEC-36: `DECP` itself. -/
theorem test_decp_length :
    answers (exec .decp (withPulses (v1.take 129) (withProfile (profileOf .generic) State.reset))) (fun t =>
        t.out.result = .err .tooShort ∧ t.status = 1#32) = true ∧
      answers (exec .decp (withPulses (v1 ++ v1.take 11) (withProfile (profileOf .generic) State.reset))) (fun t =>
        t.out.result = .err .tooLong ∧ t.status = 2#32) = true ∧
      refuses (exec .decp (withPulses v1 State.reset)) .badProfile = true := by decide +kernel

/-- The frames of V-RX-2 and V-RX-7, for every tolerance. -/
theorem test_rx_frames : ∀ tol : Fin 21,
    decodePulses tol (profileOf .generic) v1BadSum = .ok (w1.set 7 0#8) ∧
      decodePulses tol (profileOf .yaw1f) (repetition (profileOf .yaw1f) offFrame) = .ok offFrame := by decide +kernel

theorem rx_of_error {s : State} {m : Model} {strict : Bool} {F : Frame} {e : DecodeError} (hm : s.cfg.model = some m)
    (hs : s.cfg.strict = some strict) (hd : decodePulses Config.tolPct (profileOf m) s.inp.pulseIn = .ok F)
    (hu : unpackFrame F strict s.climate = .error e) :
    exec .rx s = .next (endWithError e (frameWarn F strict) (fun o => { o with frameOut := F }) s) :=
  execRx_next.2 ⟨m, strict, hm, hs, .inr ⟨F, hd, .inl ⟨e, hu, rfl⟩⟩⟩

theorem rx_of_ok {s : State} {m : Model} {strict : Bool} {F : Frame} {r : ClimateRecord} (hm : s.cfg.model = some m)
    (hs : s.cfg.strict = some strict) (hd : decodePulses Config.tolPct (profileOf m) s.inp.pulseIn = .ok F)
    (hu : unpackFrame F strict s.climate = .ok r) :
    exec .rx s = .next (endWithRecord r (frameWarn F strict) (fun o => { o with frameOut := F }) { s with climate := r }) :=
  execRx_next.2 ⟨m, strict, hm, hs, .inr ⟨F, hd, .inr ⟨r, hu, rfl⟩⟩⟩

/-- V-RX-2: `STATE` stays, `STATUS` holds the two checksums. -/
theorem test_rx_mismatch :
    ∃ t, exec .rx (withPulses v1BadSum (withClimate s0 (configured .generic true false 1#8))) = .next t ∧
      t.out.result = .err (.checksumMismatch 14#4 0#4) ∧ t.climate = s0 ∧ t.status = 0xE008#32 := by
  have hd := (test_rx_frames Config.tolPct).1
  have hu : unpackFrame (w1.set 7 0#8) true s0 = .error (.checksumMismatch 14#4 0#4) := by decide +kernel
  have hs : errorStatus (.checksumMismatch 14#4 0#4) (frameWarn (w1.set 7 0#8) true) = 0xE008#32 := by decide +kernel
  refine ⟨_, rx_of_error (m := .generic) (strict := true) (F := w1.set 7 0#8) (e := .checksumMismatch 14#4 0#4) (by simp) (by simp)
    (by rw [withPulses_pulseIn]; exact hd) (by simpa using hu), by simp, by simp, ?_⟩
  rw [endWithError_status]
  exact hs

/-- V-RX-7: a power-off frame keeps the four other fields. -/
theorem test_rx_power_off :
    ∃ t, exec .rx (withPulses (repetition (profileOf .yaw1f) offFrame)
        (withClimate ⟨some .on, some .heat, some 30#5, some .low, some .off, some .sleep⟩ (configured .yaw1f true true 1#8))) = .next t ∧
      t.climate = ⟨some .off, some .off, some 30#5, some .low, some .off, some .sleep⟩ ∧ t.out.frameOut = offFrame := by
  have hd := (test_rx_frames Config.tolPct).2
  have hu : unpackFrame offFrame true ⟨some .on, some .heat, some 30#5, some .low, some .off, some .sleep⟩ =
      .ok ⟨some .off, some .off, some 30#5, some .low, some .off, some .sleep⟩ := by decide +kernel
  exact ⟨_, rx_of_ok (m := .yaw1f) (strict := true) (F := offFrame) (by simp) (by simp)
    (by rw [withPulses_pulseIn]; exact hd) (by simpa using hu), by simp, by simp⟩

/-- V-CF-1, V-CF-2, V-CF-4. -/
theorem test_cfgModel :
    answers (exec (.cfgModel 3#8) State.reset) (fun t => t.cfg = ⟨some .yac1fb9, none, none, none⟩) = true ∧
      refuses (exec (.cfgModel 0#8) (configured .yac1fb9 true false 1#8)) .modelRewrite = true ∧
      refuses (exec (.cfgModel 5#8) State.reset) .modelReserved = true := by decide +kernel

/-- V-CF-5, V-CF-6. -/
theorem test_cfgStrict :
    answers (exec (.cfgStrict 1#8) State.reset) (fun t => t.cfg = ⟨none, some true, none, none⟩) = true ∧
      refuses (exec (.cfgStrict 2#8) State.reset) .illegalCommand = true := by decide +kernel

/-- V-CF-7. -/
theorem test_cfgWifi :
    answers (exec (.cfgWifi 1#8) State.reset) (fun t => t.cfg = ⟨none, none, some true, none⟩) = true ∧
      refuses (exec (.cfgWifi 2#8) State.reset) .illegalCommand = true := by decide +kernel

/-- V-CF-8, V-CF-9. -/
theorem test_cfgRepeat :
    answers (exec (.cfgRepeat 255#8) State.reset) (fun t => t.cfg = ⟨none, none, none, some 255#8⟩) = true ∧
      refuses (exec (.cfgRepeat 0#8) State.reset) .repeatZero = true := by decide +kernel

/-- V-ST-2, V-ST-3, V-ST-4, V-ST-5, V-ST-6. -/
theorem test_setst :
    answers (exec .setst (withCmd 0x37F1#16 State.reset)) (fun t =>
        t.climate = ⟨some .on, some .cool, some 31#5, some .high, some .both, some .none⟩) = true ∧
      refuses (exec .setst (withCmd 0x0160#16 State.reset)) .stateIllFormed = true ∧
      refuses (exec .setst (withCmd 0x016B#16 State.reset)) .stateIllFormed = true ∧
      refuses (exec .setst (withCmd 0x1907#16 State.reset)) .stateIllFormed = true ∧
      refuses (exec .setst (withCmd 0x00F1#16 State.reset)) .stateIllFormed = true := by decide +kernel

/-- V-GS-2, V-GS-4. -/
theorem test_getst :
    answers (exec .getst (withClimate ⟨some .off, some .off, some 30#5, some .low, some .off, some .sleep⟩ State.reset)) (fun t =>
        packRecord t.out.cmdOut = some 0x43EA#16) = true ∧
      refuses (exec .getst State.reset) .stateUnwritten = true := by decide +kernel

/-- P5: an encode for a model through the ports, the profile copied by the host (30_encoding.md R91). -/
theorem test_pseudo :
    (expandPseudo (.configure 0#8 1#8 0#8 1#8)).map encode = [0x9000#16, 0x9101#16, 0x9200#16, 0x9301#16] ∧
      (expandPseudo (.encodeFor 0#3 1#8)).map encode = [0x4000#16, 0x5001#16] ∧
      (expandPseudo (.decodeFor 3#3)).map encode = [0x4003#16, 0x6000#16] := by decide

/-- A word that the host presents is the next command that runs. -/
theorem test_withFetchWord :
    answers (step (State.reset.withFetchWord 16 0x9003)) (fun t => t.cfg.model = some .yac1fb9) = true ∧
      refuses (step (State.reset.withFetchWord 16 0xFFFF)) .illegalCommand = true ∧
      decodeTableWord 16 0x9003 = some (.cfgModel 3#8) := by decide +kernel

/-! ### Witnesses: states and operands that meet the hypotheses of each statement, clause by clause -/

theorem eq_of_refuses {o : StepOutcome} {r : Refusal} (h : refuses o r = true) : o = .refused r := by
  cases o <;> simp_all [refuses]

theorem next_of_answers {o : StepOutcome} {p : State → Bool} (h : answers o p = true) : ∃ t, o = .next t ∧ p t = true := by
  cases o <;> simp_all [answers]

/-- The model's profiles hold no zero. -/
theorem not_zeroDuration (m : Model) : ¬zeroDuration (profileOf m) := by
  cases m <;> simp [zeroDuration, durations, profileOf]

/-- `UNPACK` completes on any frame under any strictness. -/
theorem unpack_next (s : State) {strict : Bool} (h : s.cfg.strict = some strict) : ∃ t, exec .unpack s = .next t := by
  show ∃ t, execUnpack s = .next t
  simp only [execUnpack_next]
  cases h' : unpackFrame s.inp.frameIn strict s.climate with
  | error e => exact ⟨_, strict, h, .inl ⟨e, h', rfl⟩⟩
  | ok r => exact ⟨_, strict, h, .inr ⟨r, h', rfl⟩⟩

theorem encp_next (s : State) {n : Byte} (hn : n ≠ 0#8) (hp : profileLegal s.inp.profileIn = true) :
    ∃ t, exec (.encp n) s = .next t ∧ t.out.pulseOut = repetitions s.inp.profileIn s.inp.frameIn n.toNat :=
  ⟨_, execEncp_next.2 ⟨hn, hp, rfl⟩, rfl⟩

/-- A transaction whose ports are the host's own values. -/
def ownPorts (w : CmdWord) : Transaction := ⟨w, .value 0x3781#16, .value w1, .capture v1, .value (profileOf .generic)⟩

/-- A transaction whose ports are copied from the outputs. -/
def copiedPorts (w : CmdWord) : Transaction := ⟨w, .copyOut, .copyOut, .copyOut 140 140, .copyOut⟩

theorem witness_ResetPutsEveryRegisterInItsResetState :
    (withHost [.reset, bare 0x1000#16] (configured .yt1f true true 255#8)).host = .reset :: [bare 0x1000#16] := rfl

theorem witness_StepRunsThePresentedCommand :
    (withHost [.command (ownPorts 0x50FF#16)] State.reset).host = .command (ownPorts 0x50FF#16) :: [] ∧
      decode (ownPorts 0x50FF#16).cmdw = .ok (.encp 255#8) ∧ (ownPorts 0x50FF#16).cmdIn = .value 0x3781#16 ∧
      (ownPorts 0x50FF#16).frameIn = .value w1 ∧ (ownPorts 0x50FF#16).pulseIn = .capture v1 ∧
      (ownPorts 0x50FF#16).profileIn = .value (profileOf .generic) :=
  ⟨rfl, by decide, rfl, rfl, rfl, rfl⟩

theorem witness_StepRunsThePresentedCommand_copied :
    (withHost [.command (copiedPorts 0x6000#16)] State.reset).host = .command (copiedPorts 0x6000#16) :: [] ∧
      decode (copiedPorts 0x6000#16).cmdw = .ok .decp ∧ (copiedPorts 0x6000#16).cmdIn = .copyOut ∧
      (copiedPorts 0x6000#16).frameIn = .copyOut ∧
      (copiedPorts 0x6000#16).pulseIn = .copyOut 140 140 ∧ (copiedPorts 0x6000#16).profileIn = .copyOut :=
  ⟨rfl, by decide, rfl, rfl, rfl, rfl⟩

theorem witness_StepWithoutARequestHoldsTheState : State.reset.host = [] := rfl

theorem witness_EncodeOfDecodeIsTheWord : decode 0x93FF#16 = .ok (.cfgRepeat 255#8) := by decide

theorem witness_DecodeFollowsTheOpcodeTable :
    (∃ row ∈ opcodeRows, 0x4007#16 &&& row.mask = row.pattern) ∧ (∃ row ∈ opcodeRows, 0x93FF#16 &&& row.mask = row.pattern) ∧
      ¬∃ row ∈ opcodeRows, 0x4008#16 &&& row.mask = row.pattern := by
  simp [opcodeRows]

theorem witness_ReservedWordsAreRefused :
    decode 0x0FFF#16 = .error .illegalCommand ∧ decode 0xC000#16 = .error .illegalCommand ∧ decode 0x9400#16 = .error .illegalCommand ∧
      decode 0x1100#16 = .error .illegalCommand ∧ decode 0xB001#16 = .error .illegalCommand ∧
      decode 0x4008#16 = .error .modelReserved ∧ decode 0x40FF#16 = .error .modelReserved ∧
      (withHost [bare 0x4008#16] State.reset).host = .command (bareTransaction 0x4008#16) :: [] ∧
      (bareTransaction 0x4008#16).cmdw = 0x4008#16 :=
  ⟨by decide, by decide, by decide, by decide, by decide, by decide, by decide, rfl, rfl⟩

theorem witness_PackedRecordRoundTrip :
    unpackCommand 0x79FB#16 = some ⟨.on, .off, 31#5, .absent, .both, .sleep⟩ ∧ unpackCommand 0x7FF1#16 = none ∧
      badRecordWord 0x8000#16 ∧ badRecordWord 0x000C#16 ∧ badRecordWord 0x0A00#16 ∧ ¬badRecordWord 0x79FB#16 := by
  unfold badRecordWord
  decide

theorem witness_FrameFieldAccessorsReadAndWriteTheirBits :
    (0xFF#8).toNat < 2 ^ fieldWidth .rsvd6 ∧ (7#8).toNat < 2 ^ fieldWidth .mode ∧ (1#8).toNat < 2 ^ fieldWidth .sleep ∧
      ¬((7 : Fin 8) = fieldByte .mode ∧ fieldOffset .mode ≤ 7 ∧ 7 < fieldOffset .mode + fieldWidth .mode) ∧
      ((7 : Fin 8) = fieldByte .sum ∧ fieldOffset .sum ≤ 7 ∧ 7 < fieldOffset .sum + fieldWidth .sum) := by decide

/-- A configured block with the command word on `CMD_IN`. -/
def packState (w : CmdWord) : State := withCmd w (configured .yaw1f true true 255#8)

/-- 16 °C, 30 °C, and power off with mode off. -/
theorem witness_PackWritesEveryFrameField :
    unpackCommand (packState 0x4107#16).inp.cmdIn = some ⟨.on, .dry, 16#5, .speed .auto, .off, .sleep⟩ ∧
      unpackCommand (packState 0x21E1#16).inp.cmdIn = some ⟨.on, .cool, 30#5, .speed .auto, .horizontal, .none⟩ ∧
      unpackCommand (packState 0x090A#16).inp.cmdIn = some ⟨.off, .off, 16#5, .absent, .off, .none⟩ ∧
      (∀ w, (packState w).cfg.model = some .yaw1f ∧ (packState w).cfg.wifi = some true) ∧
      packLegal ⟨.on, .dry, 16#5, .speed .auto, .off, .sleep⟩ ∧ packLegal ⟨.on, .cool, 30#5, .speed .auto, .horizontal, .none⟩ ∧
      packLegal ⟨.off, .off, 16#5, .absent, .off, .none⟩ := by
  refine ⟨by decide, by decide, by decide, fun _ => ⟨rfl, rfl⟩, ?_, ?_, ?_⟩ <;> unfold packLegal <;> decide

theorem witness_PackIsRefusedExactlyOnContractViolations :
    (∃ s, exec .pack s = .refused .tempOutOfRange) ∧ (∃ s, exec .pack s = .refused .powerOnModeOff) ∧
      (∃ s, exec .pack s = .refused .cfgUnwritten) ∧ ∃ s, exec .pack s = .refused .badCommandWord :=
  have h := test_pack_refused
  ⟨⟨_, eq_of_refuses h.1⟩, ⟨_, eq_of_refuses h.2.1⟩, ⟨_, eq_of_refuses h.2.2.1⟩, _, eq_of_refuses h.2.2.2.1⟩

/-- A block that holds `S0` and a frame on `FRAME_IN`. -/
def unpackState (strict : Bool) (F : Frame) : State := withFrame F (withClimate s0 (configured .generic strict false 1#8))

/-- The checksum is off by one. -/
theorem witness_UnpackValidatesTheChecksumFirst :
    (∀ strict, (unpackState strict (w1.set 7 0xD0#8)).cfg.strict = some strict) ∧ checksum (w1.set 7 0xD0#8) ≠ sumField (w1.set 7 0xD0#8) :=
  ⟨fun _ => rfl, by decide +kernel⟩

/-- Strict with a good sum, lenient with a bad one. -/
theorem witness_UnpackOfPowerOffKeepsThePriorFields :
    (∀ strict F, (unpackState strict F).cfg.strict = some strict ∧ (unpackState strict F).inp.frameIn = F) ∧
      goesOn offFrame true ∧ bitsOf offFrame[0] 3 1 = 0 ∧
      goesOn (offFrame.set 0 0xF7#8) false ∧ bitsOf (offFrame.set 0 0xF7#8)[0] 3 1 = 0 :=
  ⟨fun _ _ => ⟨rfl, rfl⟩, .inl (by decide +kernel), by decide +kernel, .inr rfl, by decide +kernel⟩

/-- `MODE` 0, 4, 5 and 7. -/
theorem witness_UnpackOfPowerOnDecodesEveryField :
    (∀ b : Byte, goesOn (w1.set 0 b) false ∧ (w1.set 0 b)[0] = b) ∧
      (bitsOf 0x08#8 3 1 = 1 ∧ modeTable[bitsOf 0x08#8 0 3]? = some .auto) ∧ (bitsOf 0x0C#8 3 1 = 1 ∧ modeTable[bitsOf 0x0C#8 0 3]? = some .heat) ∧
      (bitsOf 0x0D#8 3 1 = 1 ∧ 5 ≤ bitsOf 0x0D#8 0 3) ∧ bitsOf 0x0F#8 3 1 = 1 ∧ 5 ≤ bitsOf 0x0F#8 0 3 :=
  ⟨fun _ => ⟨.inr rfl, by simp⟩, by decide, by decide, by decide, by decide, by decide⟩

theorem witness_UnpackOfPackGivesTheCommand : ∃ t : State,
    exec .pack (withCmd 0x3781#16 (configured .generic true false 1#8)) = .next t ∧
      unpackCommand 0x3781#16 = some ⟨.on, .cool, 24#5, .speed .high, .both, .none⟩ ∧
      (unpackState true t.out.frameOut).inp.frameIn = t.out.frameOut ∧ (unpackState true t.out.frameOut).cfg.strict = some true := by
  obtain ⟨t, ht, -⟩ := next_of_answers test_pack_frames.1
  exact ⟨t, ht, by decide, rfl, rfl⟩

/-- Two frames that differ in `MARKER1`. -/
theorem witness_UnpackIgnoresTheUnreadFields : w1 ≠ w1.set 3 0#8 ∧
    (∀ f ∈ [FrameField.mode, .power, .fan, .sleep, .temp, .swingV, .swingH, .sum], frameGet w1 f = frameGet (w1.set 3 0#8) f) ∧
    checksum w1 = checksum (w1.set 3 0#8) ∧ ∀ F, ∃ t, exec .unpack (unpackState true F) = .next t :=
  ⟨by decide +kernel, by decide +kernel, by decide +kernel, fun _ => unpack_next _ (strict := true) rfl⟩

theorem witness_CorruptedSumIsToleratedOnlyWhenLenient :
    checksum w1 = sumField w1 ∧ bitsOf 0x0F#8 4 4 ≠ bitsOf w1[7] 4 4 ∧
      ∀ strict, (unpackState strict w1).cfg.strict = some strict ∧ ∃ t, exec .unpack (unpackState strict w1) = .next t :=
  ⟨by decide +kernel, by decide +kernel, fun strict => ⟨rfl, unpack_next _ (strict := strict) rfl⟩⟩

theorem witness_ResolveGivesTheTableRow : (∃ row, profileRows[(4#3).toNat]? = some row) ∧ 5 ≤ (5#3).toNat ∧ 5 ≤ (7#3).toNat :=
  ⟨⟨_, rfl⟩, by decide, by decide⟩

theorem witness_EncpEmitsEveryEntryAtItsPlace :
    (255#8).toNat ≠ 0 ∧ ¬zeroDuration (withProfile (profileOf .yac1fb9) State.reset).inp.profileIn ∧ 35699 < 140 * (255#8).toNat ∧
      (1#8).toNat ≠ 0 ∧ 139 < 140 * (1#8).toNat :=
  ⟨by decide, not_zeroDuration _, by decide, by decide, by decide⟩

theorem witness_EncpTakesTheStatedTime : ∃ t, exec (.encp 255#8) (withProfile (profileOf .yaw1f) State.reset) = .next t :=
  have h := encp_next (withProfile (profileOf .yaw1f) State.reset) (n := 255#8) (by decide) (profileLegal_profileOf .yaw1f)
  ⟨h.choose, h.choose_spec.1⟩

theorem witness_TxSendsThePackedFrame :
    unpackCommand (packState 0x090A#16).inp.cmdIn = some ⟨.off, .off, 16#5, .absent, .off, .none⟩ ∧
      (packState 0x090A#16).cfg.model = some .yaw1f ∧ (packState 0x090A#16).cfg.wifi = some true ∧
      (packState 0x090A#16).cfg.repeats = some 255#8 ∧ packLegal ⟨.off, .off, 16#5, .absent, .off, .none⟩ ∧ 35699 < 140 * (255#8).toNat :=
  ⟨by decide, rfl, rfl, rfl, by unfold packLegal; decide, by decide⟩

theorem witness_TxIsPackThenResolveThenEncp : ∃ a : State,
    (withCmd 0x3781#16 (configured .generic true false 1#8)).cfg.model = some .generic ∧
      (withCmd 0x3781#16 (configured .generic true false 1#8)).cfg.repeats = some 1#8 ∧ 1#8 ≠ 0#8 ∧
      exec .pack (withCmd 0x3781#16 (configured .generic true false 1#8)) = .next a := by
  obtain ⟨a, ha, -⟩ := next_of_answers test_pack_frames.1
  exact ⟨a, rfl, rfl, by decide, ha⟩

/-- A block with the sequence on `PULSE_IN` and the Generic profile on `PROFILE_IN`. -/
def decpState (P : PulseSeq) : State := withPulses P (withProfile (profileOf .generic) State.reset)

/-- Lengths 129, 130, 150 and 151. -/
theorem witness_DecpChecksTheLengthFirst :
    (∀ P, ¬zeroDuration (decpState P).inp.profileIn ∧ (decpState P).inp.pulseIn = P) ∧ (v1.take 129).length = 129 ∧
      (v1.take 130).length = 130 ∧ (v1 ++ v1.take 10).length = 150 ∧ (v1 ++ v1.take 11).length = 151 :=
  ⟨fun _ => ⟨not_zeroDuration .generic, rfl⟩, by decide +kernel, by decide +kernel, by decide +kernel, by decide +kernel⟩

theorem witness_DecpWritesStatusOnEveryOutcome : ¬zeroDuration (decpState v1).inp.profileIn := not_zeroDuration .generic

/-- A bit cell of the Generic profile, as a computation. -/
def cellRead (tol : Nat) (P : PulseSeq) (i : Nat) : Bool :=
  pairAt tol P i (profileOf .generic).bitMark (profileOf .generic).oneSpace ||
    pairAt tol P i (profileOf .generic).bitMark (profileOf .generic).zeroSpace

theorem isCell_iff (tol : Nat) (P : PulseSeq) (i : Nat) : isCell tol (profileOf .generic) P i ↔ cellRead tol P i = true := by
  unfold isCell isOne isZero cellRead
  cases pairAt tol P i (profileOf .generic).bitMark (profileOf .generic).oneSpace <;> simp

/-- The footer of the Generic profile, as a computation. -/
def footerRead (tol : Nat) (P : PulseSeq) : Bool :=
  pairAt tol P 68 (profileOf .generic).bitMark (profileOf .generic).oneSpace &&
    [66, 70].all fun i =>
      !pairAt tol P i (profileOf .generic).bitMark (profileOf .generic).oneSpace &&
        pairAt tol P i (profileOf .generic).bitMark (profileOf .generic).zeroSpace

theorem footerReads_iff (tol : Nat) (P : PulseSeq) : footerReads tol (profileOf .generic) P ↔ footerRead tol P = true := by
  unfold footerReads isOne isZero footerRead
  simp
  tauto

/-- The cells before bit `k` of byte `b`, as a computation. -/
def cellsRead (tol : Nat) (P : PulseSeq) (lo b k : Nat) : Bool :=
  (List.range 64).all fun n => decide (n < 8 * lo) || decide (8 * b + k ≤ n) || cellRead tol P (cellIndex (n / 8) (n % 8))

theorem cellsBefore_of_read {tol : Nat} {P : PulseSeq} {lo b k : Nat} (hb : 8 * b + k ≤ 64) (h : cellsRead tol P lo b k = true) :
    cellsBefore tol (profileOf .generic) P lo b k := by
  intro b' k' hlo hk' hlt
  rw [isCell_iff]
  simp only [cellsRead, List.all_eq_true, List.mem_range, Bool.or_eq_true, decide_eq_true_eq] at h
  have := h (8 * b' + k') (by omega)
  rw [show (8 * b' + k') / 8 = b' by omega, show (8 * b' + k') % 8 = k' by omega] at this
  exact (this.resolve_left (by omega))

/-- The header pair of the Generic profile. -/
def headerRead (tol : Nat) (P : PulseSeq) : Bool := pairAt tol P 0 (profileOf .generic).headerMark (profileOf .generic).headerSpace

/-- The message-space pair of the Generic profile. -/
def messageRead (tol : Nat) (P : PulseSeq) : Bool := pairAt tol P 72 (profileOf .generic).bitMark (profileOf .generic).messageSpace

theorem stages_read : ∀ tol : Fin 21,
    headerRead tol (setDur v1 0 10801#32) = false ∧
      (headerRead tol (setDur v1 3 1000#32) = true ∧ cellRead tol (setDur v1 3 1000#32) (cellIndex 0 0) = false) ∧
      (headerRead tol (setDur v1 65 1000#32) = true ∧ cellsRead tol (setDur v1 65 1000#32) 0 3 7 = true ∧
        cellRead tol (setDur v1 65 1000#32) (cellIndex 3 7) = false) ∧
      (headerRead tol (setDur v1 69 540#32) = true ∧ cellsRead tol (setDur v1 69 540#32) 0 4 0 = true ∧
        footerRead tol (setDur v1 69 540#32) = false) ∧
      (headerRead tol (setDur v1 73 1600#32) = true ∧ cellsRead tol (setDur v1 73 1600#32) 0 4 0 = true ∧
        footerRead tol (setDur v1 73 1600#32) = true ∧ messageRead tol (setDur v1 73 1600#32) = false) ∧
      (headerRead tol (setDur v1 75 1000#32) = true ∧ cellsRead tol (setDur v1 75 1000#32) 0 4 0 = true ∧
        footerRead tol (setDur v1 75 1000#32) = true ∧ messageRead tol (setDur v1 75 1000#32) = true ∧
        cellRead tol (setDur v1 75 1000#32) (cellIndex 4 0) = false) ∧
      headerRead tol (setDur v1 137 1000#32) = true ∧ cellsRead tol (setDur v1 137 1000#32) 0 4 0 = true ∧
        footerRead tol (setDur v1 137 1000#32) = true ∧ messageRead tol (setDur v1 137 1000#32) = true ∧
        cellsRead tol (setDur v1 137 1000#32) 4 7 7 = true ∧ cellRead tol (setDur v1 137 1000#32) (cellIndex 7 7) = false := by
  decide +kernel

theorem setDur_length (P : PulseSeq) (i : Nat) (d : Dur) : (setDur P i d).length = P.length := by simp [setDur]

theorem v1_length : v1.length = 140 := repetition_length _ _

/-- A sequence for each stage, the first and the last bit of each half among them. -/
theorem witness_DecpReportsTheFirstFailingStage (tol : Fin 21) :
    (∀ i d, 130 ≤ (setDur v1 i d).length ∧ (setDur v1 i d).length ≤ 150) ∧
    headerRead tol (setDur v1 0 10801#32) = false ∧
    (headerRead tol (setDur v1 3 1000#32) = true ∧ cellsBefore tol (profileOf .generic) (setDur v1 3 1000#32) 0 0 0 ∧
      ¬isCell tol (profileOf .generic) (setDur v1 3 1000#32) (cellIndex 0 0)) ∧
    (headerRead tol (setDur v1 65 1000#32) = true ∧ cellsBefore tol (profileOf .generic) (setDur v1 65 1000#32) 0 3 7 ∧
      ¬isCell tol (profileOf .generic) (setDur v1 65 1000#32) (cellIndex 3 7)) ∧
    (headerRead tol (setDur v1 69 540#32) = true ∧ cellsBefore tol (profileOf .generic) (setDur v1 69 540#32) 0 4 0 ∧
      ¬footerReads tol (profileOf .generic) (setDur v1 69 540#32)) ∧
    (headerRead tol (setDur v1 73 1600#32) = true ∧ cellsBefore tol (profileOf .generic) (setDur v1 73 1600#32) 0 4 0 ∧
      footerReads tol (profileOf .generic) (setDur v1 73 1600#32) ∧ messageRead tol (setDur v1 73 1600#32) = false) ∧
    (headerRead tol (setDur v1 75 1000#32) = true ∧ cellsBefore tol (profileOf .generic) (setDur v1 75 1000#32) 0 4 0 ∧
      footerReads tol (profileOf .generic) (setDur v1 75 1000#32) ∧ messageRead tol (setDur v1 75 1000#32) = true ∧
      cellsBefore tol (profileOf .generic) (setDur v1 75 1000#32) 4 4 0 ∧
      ¬isCell tol (profileOf .generic) (setDur v1 75 1000#32) (cellIndex 4 0)) ∧
    (headerRead tol (setDur v1 137 1000#32) = true ∧ cellsBefore tol (profileOf .generic) (setDur v1 137 1000#32) 0 4 0 ∧
      footerReads tol (profileOf .generic) (setDur v1 137 1000#32) ∧ messageRead tol (setDur v1 137 1000#32) = true ∧
      cellsBefore tol (profileOf .generic) (setDur v1 137 1000#32) 4 7 7 ∧
      ¬isCell tol (profileOf .generic) (setDur v1 137 1000#32) (cellIndex 7 7)) := by
  obtain ⟨h1, ⟨h2, h3⟩, ⟨h4, h5, h6⟩, ⟨h7, h8, h9⟩, ⟨h10, h11, h12, h13⟩, ⟨h14, h15, h16, h17, h18⟩, h19, h20, h21, h22, h23, h24⟩ :=
    stages_read tol
  simp only [isCell_iff, footerReads_iff, Bool.not_eq_true]
  refine ⟨fun i d => by rw [setDur_length, v1_length]; decide, h1, ⟨h2, fun _ _ _ _ _ => by omega, h3⟩,
    ⟨h4, cellsBefore_of_read (by decide) h5, h6⟩, ⟨h7, cellsBefore_of_read (by decide) h8, h9⟩,
    ⟨h10, cellsBefore_of_read (by decide) h11, h12, h13⟩,
    ⟨h14, cellsBefore_of_read (by decide) h15, h16, h17, fun _ _ _ _ _ => by omega, h18⟩,
    h19, cellsBefore_of_read (by decide) h20, h21, h22, cellsBefore_of_read (by decide) h23, h24⟩

theorem witness_HeaderMarkOffByMoreThanTwentyPercentFails :
    (setDur v1 0 10801#32).head? = some ⟨.mark, 10801#32⟩ ∧ 120 * (profileOf .generic).headerMark.toNat < 100 * (10801#32).toNat ∧
      (setDur v1 0 7199#32).head? = some ⟨.mark, 7199#32⟩ ∧ 100 * (7199#32).toNat < 80 * (profileOf .generic).headerMark.toNat := by
  decide +kernel

theorem decp_next (s : State) (h : profileLegal s.inp.profileIn = true) : ∃ t, exec .decp s = .next t := by
  show ∃ t, execDecp s = .next t
  simp only [execDecp_next]
  cases h' : decodePulses Config.tolPct s.inp.profileIn s.inp.pulseIn with
  | error e => exact ⟨_, h, .inl ⟨e, rfl, rfl⟩⟩
  | ok F => exact ⟨_, h, .inr ⟨F, rfl, rfl⟩⟩

theorem witness_EntriesFrom138OnAreNotExamined :
    (v1.take 138).length = 138 ∧ (v1 ++ v1.take 10).length = 150 ∧ (v1.take 138).take 138 = (v1 ++ v1.take 10).take 138 ∧
      ∃ t, exec .decp (decpState (v1.take 138)) = .next t :=
  ⟨by decide +kernel, by decide +kernel, by decide +kernel, decp_next _ (profileLegal_profileOf .generic)⟩

theorem witness_CutSequencesFailInByteSeven :
    0 ≤ 20 ∧ 20 ≤ 20 ∧ (4 : Fin 8).val = 4 + (130 - 130) / 2 ∧ (7 : Fin 8).val = 4 + (137 - 130) / 2 := by decide

theorem witness_DecpOfEncpGivesTheFrame : ∃ t u : State,
    exec (.encp 1#8) (withFrame w1 (decpState [])) = .next t ∧ (withFrame w1 (decpState [])).inp.profileIn = profileOf .generic ∧
      (decpState (t.out.pulseOut.take 138)).inp.profileIn = profileOf .generic ∧
      (decpState (t.out.pulseOut.take 138)).inp.pulseIn = t.out.pulseOut.take 138 ∧
      exec (.encp 2#8) (withFrame w1 (decpState [])) = .next u ∧
      (decpState (u.out.pulseOut.take 280)).inp.pulseIn = u.out.pulseOut.take 280 := by
  obtain ⟨t, ht, -⟩ := encp_next (withFrame w1 (decpState [])) (n := 1#8) (by decide) (profileLegal_profileOf .generic)
  obtain ⟨u, hu, -⟩ := encp_next (withFrame w1 (decpState [])) (n := 2#8) (by decide) (profileLegal_profileOf .generic)
  exact ⟨t, u, ht, rfl, rfl, rfl, hu, rfl⟩

theorem witness_SpaceWindowsAreDisjoint : durMatch 20 1280#32 (profileOf .generic).oneSpace = true ∧
    durMatch 20 648#32 (profileOf .generic).zeroSpace = true ∧ durMatch 0 19000#32 (profileOf .generic).messageSpace = true := by decide

theorem witness_CrossModelDecodingHasItsThresholds : ¬13 ≤ 12 ∧ 13 ≤ 13 ∧ 13 ≤ 20 ∧ ¬12 ≤ 11 ∧ 12 ≤ 12 ∧
    (Model.generic = .generic ∨ Model.generic = .yt1f) ∧ (Model.yaw1f = .yaw1f ∨ Model.yaw1f = .ybofb) := by decide

/-- The cells of V1 carry the W1 frame, and the cells of V-ENC-4 the power-off frame of V-PK-9. -/
theorem sequences_read : ∀ tol : Fin 21,
    (headerRead tol v1 = true ∧ footerRead tol v1 = true ∧ messageRead tol v1 = true ∧
      ∀ b k : Fin 8, (if frameBit w1 b k then pairAt tol v1 (cellIndex b k) 620#32 1600#32 = true
        else pairAt tol v1 (cellIndex b k) 620#32 1600#32 = false ∧ pairAt tol v1 (cellIndex b k) 620#32 540#32 = true)) ∧
    (headerRead tol (repetition (profileOf .generic) offFrame) = true ∧ footerRead tol (repetition (profileOf .generic) offFrame) = true ∧
      messageRead tol (repetition (profileOf .generic) offFrame) = true ∧
      ∀ b k : Fin 8, (if frameBit offFrame b k then pairAt tol (repetition (profileOf .generic) offFrame) (cellIndex b k) 620#32 1600#32 = true
        else pairAt tol (repetition (profileOf .generic) offFrame) (cellIndex b k) 620#32 1600#32 = false ∧
          pairAt tol (repetition (profileOf .generic) offFrame) (cellIndex b k) 620#32 540#32 = true)) := by
  decide +kernel

theorem decodesTo_of_read {tol : Nat} {P : PulseSeq} {F : Frame} (hl : P.length = 140) (hh : headerRead tol P = true)
    (hf : footerRead tol P = true) (hm : messageRead tol P = true)
    (hc : ∀ b k : Fin 8, (if frameBit F b k then pairAt tol P (cellIndex b k) 620#32 1600#32 = true
      else pairAt tol P (cellIndex b k) 620#32 1600#32 = false ∧ pairAt tol P (cellIndex b k) 620#32 540#32 = true)) :
    decodesTo tol (profileOf .generic) P F :=
  ⟨by omega, by omega, hh, (footerReads_iff tol P).2 hf, hm, fun b k hb hk => hc ⟨b, hb⟩ ⟨k, hk⟩⟩

theorem witness_DecpSucceedsExactlyOnTheDescribedSequences :
    ¬zeroDuration (decpState v1).inp.profileIn ∧ decodesTo Config.tolPct (profileOf .generic) v1 w1 := by
  obtain ⟨⟨hh, hf, hm, hc⟩, -⟩ := sequences_read Config.tolPct
  exact ⟨not_zeroDuration .generic, decodesTo_of_read v1_length hh hf hm hc⟩

/-- A power-on frame, strict, and a power-off one, lenient. -/
theorem witness_RxCommitsTheDecodedState :
    ((configured .generic true false 1#8).cfg.model = some .generic ∧ (configured .generic true false 1#8).cfg.strict = some true ∧
      decodesTo Config.tolPct (profileOf .generic) v1 w1 ∧ goesOn w1 true ∧ bitsOf w1[0] 3 1 = 1 ∧
      modeTable[bitsOf w1[0] 0 3]? = some .cool) ∧
    (decodesTo Config.tolPct (profileOf .generic) (repetition (profileOf .generic) offFrame) offFrame ∧ goesOn offFrame false ∧
      bitsOf offFrame[0] 3 1 = 0) := by
  obtain ⟨⟨hh, hf, hm, hc⟩, hh', hf', hm', hc'⟩ := sequences_read Config.tolPct
  exact ⟨⟨rfl, rfl, decodesTo_of_read v1_length hh hf hm hc, .inl (by decide +kernel), by decide +kernel, by decide +kernel⟩,
    decodesTo_of_read (repetition_length _ _) hh' hf' hm' hc', .inr rfl, by decide +kernel⟩

theorem witness_RxFailureLeavesStateUntouched : ∃ s t e, exec .rx s = .next t ∧ t.out.result = .err e :=
  ⟨_, test_rx_mismatch.choose, _, test_rx_mismatch.choose_spec.1, test_rx_mismatch.choose_spec.2.1⟩

theorem witness_RxIsDecpThenUnpackThenCommit :
    (configured .yt1f false false 1#8).cfg.model = some .yt1f ∧ (configured .yt1f false false 1#8).cfg.strict = some false := ⟨rfl, rfl⟩

theorem witness_RxOfTxCommitsTheCommand : ∃ t : State,
    exec .tx (withCmd 0x3781#16 (configured .generic true false 1#8)) = .next t ∧
      unpackCommand 0x3781#16 = some ⟨.on, .cool, 24#5, .speed .high, .both, .none⟩ ∧
      (withCmd 0x3781#16 (configured .generic true false 1#8)).cfg.repeats = some 1#8 ∧
      (withPulses t.out.pulseOut (configured .generic true true 9#8)).cfg.model = some .generic ∧
      (withPulses t.out.pulseOut (configured .generic true true 9#8)).cfg.strict = some true ∧
      (withPulses t.out.pulseOut (configured .generic true true 9#8)).inp.pulseIn = t.out.pulseOut := by
  have h : answers (exec .tx (withCmd 0x3781#16 (configured .generic true false 1#8))) (fun _ => true) = true := by decide +kernel
  obtain ⟨t, ht, -⟩ := next_of_answers h
  exact ⟨t, ht, by decide, rfl, rfl, rfl, rfl⟩

/-- Values 0, 1, 2, 4, 5 and 255, selectors 4 and 15. -/
theorem witness_CfgWritesOneFieldOrIsRefused :
    4 < (5#8).toNat ∧ 4 < (255#8).toNat ∧ ((4#8).toNat ≤ 4 ∧ (configured .ybofb true true 1#8).cfg.model ≠ none) ∧
      ((4#8).toNat ≤ 4 ∧ (0#8).toNat ≤ 4 ∧ State.reset.cfg.model = none) ∧ 1 < (2#8).toNat ∧ 1 < (255#8).toNat ∧
      (0#8).toNat = false.toNat ∧ (1#8).toNat = true.toNat ∧ (0#8).toNat = 0 ∧ (1#8).toNat ≠ 0 ∧ (255#8).toNat ≠ 0 ∧
      4 ≤ (4#4).toNat ∧ 4 ≤ (15#4).toNat := by decide

theorem witness_ModelIsWriteOnceUntilReset :
    (configured .ybofb true true 1#8).cfg.model = some .ybofb ∧
      (∃ t, step (withHost [.reset] (configured .ybofb true true 1#8)) = .next t) ∧
      ∃ t, step (withHost [bare 0x9101#16] (configured .ybofb true true 1#8)) = .next t := by
  have h : answers (step (withHost [bare 0x9101#16] (configured .ybofb true true 1#8))) (fun _ => true) = true := by decide +kernel
  obtain ⟨t, ht, -⟩ := next_of_answers h
  exact ⟨rfl, ⟨_, rfl⟩, t, ht⟩

theorem witness_SetstWritesTheStateOrIsRefused :
    badRecordWord (packState 0x8000#16).inp.cmdIn ∧
      (unpackCommand (packState 0x0101#16).inp.cmdIn = some ⟨.on, .cool, 16#5, .speed .auto, .off, .none⟩ ∧
        ¬setstIllFormed ⟨.on, .cool, 16#5, .speed .auto, .off, .none⟩) ∧
      ¬setstIllFormed ⟨.off, .off, 31#5, .speed .high, .both, .sleep⟩ ∧
      setstIllFormed ⟨.on, .cool, 15#5, .speed .auto, .off, .none⟩ ∧ setstIllFormed ⟨.on, .cool, 16#5, .absent, .off, .none⟩ ∧
      setstIllFormed ⟨.off, .cool, 16#5, .speed .auto, .off, .none⟩ ∧ setstIllFormed ⟨.on, .off, 16#5, .speed .auto, .off, .none⟩ := by
  unfold badRecordWord setstIllFormed
  decide

theorem witness_GetstReadsTheWholeState :
    hasUnwritten State.reset.climate ∧ hasUnwritten ⟨some .off, some .off, none, none, none, none⟩ ∧
      (unpackState true w1).climate = recordOf ⟨.on, .heat, 22#5, .speed .low, .off, .none⟩ := by
  unfold hasUnwritten
  exact ⟨.inl rfl, by decide, rfl⟩

theorem witness_StatusIsWrittenWholeByTheDecodeFamilyOnly :
    (∃ s t, exec .csum s = .next t) ∧ (∃ s t, exec .unpack s = .next t) ∧ (∃ s t, exec .decp s = .next t) ∧ ∃ s t, exec .rx s = .next t :=
  ⟨⟨State.reset, _, rfl⟩, ⟨_, unpack_next (unpackState true w1) (strict := true) rfl⟩,
    ⟨_, decp_next (decpState v1) (profileLegal_profileOf .generic)⟩, _, _, test_rx_mismatch.choose_spec.1⟩

theorem witness_EachRegisterHasItsWriters : ∃ s i t, exec i s = .next t ∧ t.climate ≠ s.climate := by
  obtain ⟨t, ht, h⟩ := next_of_answers test_setst.1
  refine ⟨_, .setst, t, ht, ?_⟩
  rw [of_decide_eq_true h]
  decide

theorem witness_CommandsCompleteUnlessARefusalReasonApplies :
    (∀ r, ¬refusalCause .csum State.reset r) ∧ (∃ s, exec .pack s = .refused .tempOutOfRange) :=
  ⟨fun r => by cases r <;> simp [refusalCause, lacksCfg], _, eq_of_refuses test_pack_refused.1⟩

theorem witness_CommandsNeedTheirConfiguration :
    lacksCfg .pack State.reset.cfg ∧ lacksCfg .unpack State.reset.cfg ∧ lacksCfg .tx State.reset.cfg ∧ lacksCfg .rx State.reset.cfg ∧
      ¬badRecordWord 0x3781#16 ∧ ∃ s, exec .pack s = .refused .cfgUnwritten :=
  ⟨.inl rfl, rfl, .inl rfl, .inl rfl, by unfold badRecordWord; decide, _, eq_of_refuses test_pack_refused.2.2.1⟩

theorem witness_CommandsAreIdempotent : (∀ v, Instr.unpack ≠ .cfgModel v) ∧ ∃ t, exec .unpack (unpackState false offFrame) = .next t :=
  ⟨fun _ => by simp, unpack_next _ (strict := false) rfl⟩

/-- A configured block with `S0` and a failed strict decode on `STATUS`, and a step of it. -/
theorem witness_EveryStepKeepsTheInvariant : ∃ s t, StateInv s ∧ s.climate = s0 ∧ s.status = 0xE008#32 ∧ s.cfg.repeats = some 255#8 ∧
    step s = .next t ∧ t ≠ s := by
  refine ⟨{ withHost [.reset] (withClimate s0 (configured .yaw1f true true 255#8)) with status := 0xE008#32 }, _, ⟨?_, ?_, by decide⟩,
    rfl, rfl, rfl, rfl, ?_⟩
  · constructor <;> simp [withHost, withClimate, s0]
  · constructor <;> decide
  · intro h
    exact absurd (congrArg (fun s => s.host.length) h) (by simp [assertReset, withHost])

end Sys2Proof.Tests
end

section
/-! PROOFS. Reset (10_state.md R34, 70_reset_and_hazards.md R260): the registers of the state after reset, the reset input, and the
step that takes it. -/

namespace Sys2Proof.Machine

@[simp] theorem reset_cfg : State.reset.cfg = CfgReg.reset := rfl
@[simp] theorem reset_climate : State.reset.climate = climateReset := rfl
@[simp] theorem reset_status : State.reset.status = 0#32 := rfl

/-- The reset input asks nothing of the state it finds: the registers of any `s` become those of the state after reset. -/
theorem registersKept_reset_assertReset (s : State) : registersKept State.reset (assertReset s) :=
  ⟨assertReset_cfg s, assertReset_climate s, assertReset_status s⟩

/-- A reset request is always taken: the answer is never a refusal. -/
theorem step_of_reset_request {s : State} {rest : List HostRequest} (h : s.host = .reset :: rest) :
    step s = .next (assertReset { s with host := rest }) :=
  step_next.2 (.inr (.inl ⟨rest, h, rfl⟩))

/-- Settles O1: the reset values are read off the state after reset, and the step that takes a reset request is the reset input on
the state with the other requests left. -/
theorem resetPutsEveryRegisterInItsResetState : Obligations.ResetPutsEveryRegisterInItsResetState := by
  unfold Obligations.ResetPutsEveryRegisterInItsResetState
  refine ⟨?cfg, ?climate, ?status, ?resetInput⟩
  case cfg => rintro g rfl; simp [CfgReg.reset]
  case climate => rintro r rfl; simp [climateReset]
  case status => simp
  case resetInput =>
    intro s rest h
    exact ⟨_, step_of_reset_request h, registersKept_reset_assertReset _, assertReset_host _⟩

end Sys2Proof.Machine
end

section
/-! PROOFS. The field accessors (20_memory.md R54) bit by bit: which bits of the frame `FrameGet` reads and `FrameSet` writes. -/

namespace Sys2Proof.Machine

/-- A field lies in one byte. -/
theorem fieldOffset_add_fieldWidth_le (f : FrameField) : fieldOffset f + fieldWidth f ≤ 8 := by
  cases f <;> decide

@[simp] theorem fieldMask_toNat (f : FrameField) : (fieldMask f).toNat = 2 ^ fieldWidth f - 1 := by
  cases f <;> rfl

@[simp] theorem fieldMask_getLsbD (f : FrameField) (k : Nat) : (fieldMask f).getLsbD k = decide (k < fieldWidth f) := by
  rw [BitVec.getLsbD, fieldMask_toNat, Nat.testBit_two_pow_sub_one]

theorem frameBit_eq_getLsbD (F : Frame) (b : Fin 8) (k : Nat) : frameBit F b.val k = F[b].getLsbD k := by
  simp [frameBit]

theorem frameGet_toNat (F : Frame) (f : FrameField) :
    (frameGet F f).toNat = bitsOf F[fieldByte f] (fieldOffset f) (fieldWidth f) := by
  rw [frameGet, BitVec.toNat_and, fieldMask_toNat, Nat.and_two_pow_sub_one_eq_mod, BitVec.toNat_ushiftRight,
    Nat.shiftRight_eq_div_pow, bitsOf]

/-- Bit `k` of a field's value is bit `o + k` of its byte, and there is none from the width on. -/
theorem frameGet_getLsbD (F : Frame) (f : FrameField) (k : Nat) :
    (frameGet F f).getLsbD k =
      (F[fieldByte f].getLsbD (fieldOffset f + k) && decide (k < fieldWidth f)) := by
  rw [frameGet, BitVec.getLsbD_and, BitVec.getLsbD_ushiftRight, fieldMask_getLsbD]

theorem getLsbD_eq_false_of_toNat_lt {v : Byte} {w k : Nat} (hv : v.toNat < 2 ^ w) (h : w ≤ k) : v.getLsbD k = false :=
  Nat.testBit_lt_two_pow (hv.trans_le (Nat.pow_le_pow_right (by decide) h))

section
variable (F : Frame) (f : FrameField) (v : Byte) {k : Nat}

/-- A field write bit by bit: from the offset on, the mask decides whether the old bit stays, and the value's bit is put in. -/
theorem frameSet_getLsbD (hk : k < 8) :
    (frameSet F f v)[fieldByte f].getLsbD k =
      (F[fieldByte f].getLsbD k && !(!decide (k < fieldOffset f) && decide (k - fieldOffset f < fieldWidth f)) ||
        !decide (k < fieldOffset f) && v.getLsbD (k - fieldOffset f)) := by
  simp only [frameSet_getElem_self, BitVec.getLsbD_or, BitVec.getLsbD_and, BitVec.getLsbD_not, BitVec.getLsbD_shiftLeft,
    fieldMask_getLsbD, hk, decide_true, Bool.true_and]

/-- Inside a field the mask clears the old bit and the value supplies the new one. -/
theorem frameSet_getLsbD_inside (hlo : fieldOffset f ≤ k) (hhi : k < fieldOffset f + fieldWidth f) :
    (frameSet F f v)[fieldByte f].getLsbD k = v.getLsbD (k - fieldOffset f) := by
  have hk : k < 8 := hhi.trans_le (fieldOffset_add_fieldWidth_le f)
  have hw : k - fieldOffset f < fieldWidth f := by omega
  simp [frameSet_getLsbD F f v hk, not_lt.2 hlo, hw, -Fin.getElem_fin]

/-- Outside a field the mask keeps the old bit, and a value that fits the field has no bit to put there. -/
theorem frameSet_getLsbD_outside (hv : v.toNat < 2 ^ fieldWidth f) (hk : k < 8)
    (hout : ¬(fieldOffset f ≤ k ∧ k < fieldOffset f + fieldWidth f)) :
    (frameSet F f v)[fieldByte f].getLsbD k = F[fieldByte f].getLsbD k := by
  rw [frameSet_getLsbD F f v hk]
  by_cases hlo : k < fieldOffset f
  · simp [hlo]
  · have hw : fieldWidth f ≤ k - fieldOffset f := by omega
    simp [hlo, not_lt.2 hw, getLsbD_eq_false_of_toNat_lt hv hw]

theorem frameGet_frameSet_self (hv : v.toNat < 2 ^ fieldWidth f) : frameGet (frameSet F f v) f = v := by
  apply BitVec.eq_of_getLsbD_eq
  intro k _
  rw [frameGet_getLsbD]
  by_cases hw : k < fieldWidth f
  · rw [frameSet_getLsbD_inside F f v (by omega) (by omega), Nat.add_sub_cancel_left, decide_eq_true hw, Bool.and_true]
  · rw [decide_eq_false hw, Bool.and_false, getLsbD_eq_false_of_toNat_lt hv (not_lt.1 hw)]

end

/-- Settles O10: `FrameGet` masks the shifted byte to the number its bits make; a write is split into the bits inside the field, the
other bits of the field's byte, and the other bytes. -/
theorem frameFieldAccessorsReadAndWriteTheirBits : Obligations.FrameFieldAccessorsReadAndWriteTheirBits := by
  unfold Obligations.FrameFieldAccessorsReadAndWriteTheirBits
  intro F f
  refine ⟨frameGet_toNat F f, fun v hv => ⟨frameGet_frameSet_self F f v hv, fun b k => ⟨?outside, ?inside⟩⟩⟩
  case outside =>
    intro hout
    rw [frameBit_eq_getLsbD, frameBit_eq_getLsbD]
    by_cases hb : fieldByte f = b
    · subst hb
      exact frameSet_getLsbD_outside F f v hv k.isLt fun h => hout ⟨rfl, h⟩
    · rw [frameSet_getElem_ne F f v hb]
  case inside =>
    rintro rfl hlo hhi
    rw [frameBit_eq_getLsbD]
    exact frameSet_getLsbD_inside F f v hlo hhi

end Sys2Proof.Machine
end

section
/-! PROOFS. The checksum unit (40_checksum.md R110, R111): the accumulator as a sum of nibbles, and the state `CSUM` ends in. -/

namespace Sys2Proof.Machine

theorem bitsOf_low_nibble (b : Byte) : bitsOf b 0 4 = b.toNat % 16 := by
  simp [bitsOf]

/-- The high nibble is the byte shifted: nothing stands above bit 7. -/
theorem bitsOf_high_nibble (b : Byte) : bitsOf b 4 4 = b.toNat / 16 := by
  have hb : b.toNat < 256 := b.isLt
  exact Nat.mod_eq_of_lt (Nat.div_lt_of_lt_mul hb)

/-- R110's two passes: the low nibbles of bytes 0..3, then the high nibbles of bytes 4..6. -/
theorem checksumAcc_eq_sum (F : Frame) :
    checksumAcc F = 10 + ∑ i : Fin 4, bitsOf F[i] 0 4 + ∑ i : Fin 3, bitsOf F[i.val + 4] 4 4 := by
  simp only [bitsOf_low_nibble, bitsOf_high_nibble, Fin.sum_univ_four, Fin.sum_univ_three, checksumAcc, ← Nat.add_assoc]
  rfl

theorem checksum_toNat (F : Frame) : (checksum F).toNat = checksumAcc F % 16 :=
  BitVec.toNat_ofNat (checksumAcc F) 4

/-- `CSUM` asks nothing of the state and names one port. -/
theorem exec_csum (s : State) :
    exec .csum s = .next (complete s fun o => { o with csumOut := checksum s.inp.frameIn }) := rfl

/-- Settles O12: the registers and inputs are those of a completed command, and the port holds the accumulator mod 16, which is the
sum of the nibbles. -/
theorem csumWritesTheChecksum : Obligations.CsumWritesTheChecksum := by
  unfold Obligations.CsumWritesTheChecksum
  intro s
  refine ⟨_, exec_csum s, ⟨complete_cfg .., complete_climate .., complete_status ..⟩, ⟨complete_inp .., complete_host ..⟩, ?csumOut⟩
  case csumOut =>
    rw [complete_out, checksum_toNat, checksumAcc_eq_sum]

end Sys2Proof.Machine
end

section
/-! PROOFS. Two fields of the frame do not touch each other (30_encoding.md R72), so a field reads what was last written to it; a
field's value in numbers. -/

namespace Sys2Proof.Machine

/-- Every field of the frame, in the order of the table of R72. -/
def frameFields : List FrameField :=
  [.mode, .power, .fan, .swingAuto, .sleep, .temp, .timerHalfHr, .timerTensHr, .timerEn, .timerHours, .turbo, .light, .modelFlag,
    .xfan, .rsvd3, .marker1, .swingV, .swingH, .rsvd4, .displayTemp, .ifeel, .marker2, .wifi, .rsvd5, .rsvd6, .rsvd7a, .econo,
    .rsvd7b, .sum]

theorem mem_frameFields (f : FrameField) : f ∈ frameFields := by
  cases f <;> decide

theorem disjoint_of_mem_frameFields : ∀ f ∈ frameFields, ∀ g ∈ frameFields, f ≠ g → fieldByte f = fieldByte g →
    fieldOffset f + fieldWidth f ≤ fieldOffset g ∨ fieldOffset g + fieldWidth g ≤ fieldOffset f := by
  decide +kernel

section
variable {f g : FrameField} (hne : f ≠ g)
include hne

/-- Of two fields in one byte, one ends before the other begins. -/
theorem fields_disjoint (hb : fieldByte f = fieldByte g) :
    fieldOffset f + fieldWidth f ≤ fieldOffset g ∨ fieldOffset g + fieldWidth g ≤ fieldOffset f :=
  disjoint_of_mem_frameFields f (mem_frameFields f) g (mem_frameFields g) hne hb

/-- A field read does not see a write to another field, in the same byte or not. -/
theorem frameGet_frameSet_of_ne (F : Frame) (v : Byte) (hv : v.toNat < 2 ^ fieldWidth f) :
    frameGet (frameSet F f v) g = frameGet F g := by
  by_cases hb : fieldByte f = fieldByte g
  · apply BitVec.eq_of_getLsbD_eq
    intro k _
    by_cases hk : k < fieldWidth g
    · have hdisj := fields_disjoint hne hb
      have hbyte := fieldOffset_add_fieldWidth_le g
      simp only [frameGet_getLsbD, ← hb]
      rw [frameSet_getLsbD_outside F f v hv (by omega) (by omega)]
    · simp only [frameGet_getLsbD, hk, decide_false, Bool.and_false]
  · exact frameGet_frameSet_of_byte_ne F f g v hb

end

theorem bitsOf_lt (b : Byte) (o w : Nat) : bitsOf b o w < 2 ^ w := Nat.mod_lt _ (Nat.two_pow_pos w)

theorem frameGet_eq_iff (F : Frame) (f : FrameField) (v : Byte) :
    frameGet F f = v ↔ bitsOf F[fieldByte f] (fieldOffset f) (fieldWidth f) = v.toNat := by
  rw [← BitVec.toNat_inj, frameGet_toNat]

@[simp] theorem frameGet_zeroFrame (f : FrameField) : frameGet zeroFrame f = 0#8 := by
  rw [frameGet, zeroFrame_getElem, BitVec.zero_ushiftRight, BitVec.zero_and]

/-- Byte 7 holds `SUM`, and the checksum does not read it (40_checksum.md R110). -/
theorem checksum_frameSet_sum (F : Frame) (v : Byte) : checksum (frameSet F .sum v) = checksum F :=
  checksum_set_seven F _

end Sys2Proof.Machine
end

section
/-! PROOFS. `PACK` (41_frame_codec.md R120 to R127): the field values of the packed frame, and when the command is refused. -/

namespace Sys2Proof.Machine

/-! ### The packed frame -/

/-- A flag fits every field, the wider swing fields among them. -/
theorem flagCode_fits (b : Bool) (f : FrameField) : (flagCode b).toNat < 2 ^ fieldWidth f := by
  cases b <;> cases f <;> decide

theorem packedMode_fits (p : Power) (m : Mode) : (if p = .off then 0#8 else modeCode m).toNat < 2 ^ fieldWidth .mode := by
  cases p <;> cases m <;> decide

theorem fanCode_fits (a : FanArg) : (fanCode a).toNat < 2 ^ fieldWidth .fan := by
  rcases a with ⟨⟨⟩⟩ | _ <;> decide

theorem packedTemp_toNat (t : Temp) : (BitVec.ofNat 8 (t.toNat - 16)).toNat = t.toNat - 16 := by
  rw [BitVec.toNat_ofNat]
  omega

theorem packedTemp_fits (t : Temp) : (BitVec.ofNat 8 (t.toNat - 16)).toNat < 2 ^ fieldWidth .temp := by
  have := t.isLt
  rw [packedTemp_toNat, fieldWidth]
  omega

theorem packedSum_fits (v : BitVec 4) : (v.setWidth 8).toNat < 2 ^ fieldWidth .sum := by
  rw [BitVec.toNat_setWidth_of_le (by decide)]
  exact v.isLt

theorem markers_and_light_fit : (0b0101#8).toNat < 2 ^ fieldWidth .marker1 ∧ (0b100#8).toNat < 2 ^ fieldWidth .marker2 ∧
    (1#8).toNat < 2 ^ fieldWidth .light := by
  decide

section
variable (c : ClimateCommand) (m : Model) (w : Bool)

/-- Each field of the frame before its `SUM` holds the column's value, whatever frame the column's `SUM` is taken from. -/
theorem frameGet_packUnsummed_toNat (F : Frame) {f : FrameField} (hf : f ≠ .sum) :
    (frameGet (packUnsummed c m w) f).toNat = packColumn c m w F f := by
  obtain ⟨power, mode, temp, fan, swing, preset⟩ := c
  obtain ⟨hmarker1, hmarker2, hlight⟩ := markers_and_light_fit
  cases f <;>
    simp only [packUnsummed, frameGet_frameSet_of_ne, frameGet_frameSet_self, frameGet_zeroFrame, flagCode_fits, packedMode_fits,
      fanCode_fits, packedTemp_fits, hmarker1, hmarker2, hlight, ne_eq, reduceCtorEq, not_false_eq_true]
  case sum => exact absurd rfl hf
  case mode => cases power <;> cases mode <;> rfl
  case power => cases power <;> rfl
  case fan => rcases fan with ⟨⟨⟩⟩ | _ <;> rfl
  case swingAuto | swingV | swingH => cases swing <;> rfl
  case sleep => cases preset <;> rfl
  case temp => exact packedTemp_toNat temp
  case modelFlag => cases m <;> rfl
  case wifi => cases w <;> rfl
  all_goals rfl

theorem checksum_packFrame : checksum (packFrame c m w) = checksum (packUnsummed c m w) :=
  checksum_frameSet_sum _ _

/-- Writing `SUM` does not change the checksum that `SUM` holds. -/
theorem frameGet_packFrame_sum : frameGet (packFrame c m w) .sum = (checksum (packFrame c m w)).setWidth 8 := by
  rw [checksum_packFrame]
  exact frameGet_frameSet_self _ _ _ (packedSum_fits _)

theorem frameGet_packFrame_of_ne_sum {f : FrameField} (hf : f ≠ .sum) :
    frameGet (packFrame c m w) f = frameGet (packUnsummed c m w) f :=
  frameGet_frameSet_of_ne (Ne.symm hf) _ _ (packedSum_fits _)

/-- The column of R72 holds of the whole frame, `SUM` being the frame's own checksum. -/
theorem frameGet_packFrame_toNat (f : FrameField) :
    (frameGet (packFrame c m w) f).toNat = packColumn c m w (packFrame c m w) f := by
  by_cases hf : f = .sum
  · rw [hf, frameGet_packFrame_sum, BitVec.toNat_setWidth_of_le (by decide), packColumn]
  · rw [frameGet_packFrame_of_ne_sum c m w hf, frameGet_packUnsummed_toNat c m w _ hf]

end

theorem exec_pack_of_ok {s : State} {F : Frame} (h : packResult s = .ok F) :
    exec .pack s = .next (complete s fun o => { o with frameOut := F }) :=
  execPack_next.2 ⟨F, h, rfl⟩

/-- Settles O14: a legal command has a packed frame, `PACK` completes with it on its port, and the frame's fields are the column's. -/
theorem packWritesEveryFrameField : Obligations.PackWritesEveryFrameField := by
  unfold Obligations.PackWritesEveryFrameField
  rintro s c m w hc hm hw ⟨hlo, hhi, hpower⟩
  have hok : packResult s = .ok (packFrame c m w) := packResult_ok.2 ⟨c, m, w, hc, hm, hw, hlo, hhi, hpower, rfl⟩
  exact ⟨_, exec_pack_of_ok hok, ⟨complete_cfg .., complete_climate .., complete_status ..⟩, ⟨complete_inp .., complete_host ..⟩,
    frameGet_packFrame_toNat c m w⟩

/-! ### The refusals (R127) -/

theorem modeOfBits_eq_none {b : BitVec 3} : modeOfBits b = none ↔ 6 ≤ b.toNat := by
  revert b
  decide

theorem fanArgOfBits_eq_none {b : BitVec 3} : fanArgOfBits b = none ↔ 5 ≤ b.toNat := by
  revert b
  decide

/-- `CMD_IN` is a bad word exactly when bit 15 is set or one of the two codes with reserved values is reserved. -/
theorem unpackCommand_eq_none {w : CmdWord} : unpackCommand w = none ↔ badRecordWord w := by
  have hbit : w.getLsbD 15 = true ↔ w.toNat / 2 ^ 15 = 1 := by
    rw [BitVec.getLsbD, Nat.testBit_eq_decide_div_mod_eq, decide_eq_true_iff]
    omega
  have hmode : modeOfBits (w.extractLsb' 1 3) = none ↔ w.toNat / 2 % 8 ≥ 6 := by
    rw [modeOfBits_eq_none, BitVec.extractLsb'_toNat, Nat.shiftRight_eq_div_pow]
  have hfan : fanArgOfBits (w.extractLsb' 9 3) = none ↔ w.toNat / 2 ^ 9 % 8 ≥ 5 := by
    rw [fanArgOfBits_eq_none, BitVec.extractLsb'_toNat, Nat.shiftRight_eq_div_pow]
  rw [badRecordWord, ← hbit, ← hmode, ← hfan, unpackCommand]
  cases modeOfBits (w.extractLsb' 1 3) <;> cases fanArgOfBits (w.extractLsb' 9 3) <;> simp

theorem exec_pack_refused {s : State} {r : Refusal} : exec .pack s = .refused r ↔ packResult s = .error r := by
  change execPack s = .refused r ↔ _
  unfold execPack
  cases packResult s <;> simp

/-- Reason `r` applies to `PACK` in `s`: R127's table of reasons, as O15 writes it out. -/
def packRefusalHolds (s : State) (r : Refusal) : Prop :=
  (r = .cfgUnwritten ∧ (s.cfg.model = none ∨ s.cfg.wifi = none)) ∨
  (r = .badCommandWord ∧ badRecordWord s.inp.cmdIn) ∨
  (∃ c, unpackCommand s.inp.cmdIn = some c ∧
    ((r = .tempOutOfRange ∧ (c.temp.toNat < 16 ∨ 30 < c.temp.toNat)) ∨
      (r = .powerOnModeOff ∧ c.power = .on ∧ c.mode = .off)))

/-- One of R127's four contract violations is there, whatever reason `PACK` then gives. -/
def packViolation (s : State) : Prop :=
  s.cfg.model = none ∨ s.cfg.wifi = none ∨ badRecordWord s.inp.cmdIn ∨ ∃ c, unpackCommand s.inp.cmdIn = some c ∧ ¬packLegal c

theorem packRefusalHolds_of_error {s : State} {r : Refusal} (h : packResult s = .error r) : packRefusalHolds s r := by
  rcases packResult_error.1 h with ⟨hr, hbad⟩ | ⟨c, hc, ⟨hr, hcfg⟩ | ⟨-, -, ⟨hr, htemp⟩ | ⟨hr, -, hpower⟩⟩⟩
  · exact .inr (.inl ⟨hr, unpackCommand_eq_none.1 hbad⟩)
  · exact .inl ⟨hr, hcfg⟩
  · exact .inr (.inr ⟨c, hc, .inl ⟨hr, by omega⟩⟩)
  · exact .inr (.inr ⟨c, hc, .inr ⟨hr, hpower⟩⟩)

theorem packViolation_of_packRefusalHolds {s : State} {r : Refusal} (h : packRefusalHolds s r) : packViolation s := by
  rcases h with ⟨-, hmodel | hwifi⟩ | ⟨-, hbad⟩ | ⟨c, hc, ⟨-, htemp⟩ | ⟨-, hpower⟩⟩
  · exact .inl hmodel
  · exact .inr (.inl hwifi)
  · exact .inr (.inr (.inl hbad))
  · exact .inr (.inr (.inr ⟨c, hc, fun ⟨hlo, hhi, _⟩ => by omega⟩))
  · exact .inr (.inr (.inr ⟨c, hc, fun ⟨_, _, hlegal⟩ => hlegal hpower⟩))

/-- A packed frame needs its configuration, a good word and a legal command. -/
theorem not_packViolation_of_ok {s : State} {F : Frame} (h : packResult s = .ok F) : ¬packViolation s := by
  obtain ⟨c, m, w, hc, hm, hw, hlo, hhi, hpower, -⟩ := packResult_ok.1 h
  rintro (hmodel | hwifi | hbad | ⟨c', hc', hillegal⟩)
  · exact Option.some_ne_none m (hm.symm.trans hmodel)
  · exact Option.some_ne_none w (hw.symm.trans hwifi)
  · exact Option.some_ne_none c (hc.symm.trans (unpackCommand_eq_none.2 hbad))
  · cases hc.symm.trans hc'
    exact hillegal ⟨hlo, hhi, hpower⟩

/-- Settles O15: a reason that holds is a violation, and a state with a violation has no packed frame, so `PACK` refuses it. -/
theorem packIsRefusedExactlyOnContractViolations : Obligations.PackIsRefusedExactlyOnContractViolations := by
  unfold Obligations.PackIsRefusedExactlyOnContractViolations
  simp only [exec_pack_refused]
  refine fun s => ⟨⟨fun ⟨r, hr⟩ => packViolation_of_packRefusalHolds (packRefusalHolds_of_error hr), fun hviolation => ?violated⟩,
    fun r => packRefusalHolds_of_error⟩
  case violated =>
    cases h : packResult s with
    | error r => exact ⟨r, rfl⟩
    | ok F => exact absurd hviolation (not_packViolation_of_ok h)

end Sys2Proof.Machine
end

section
/-! PROOFS. `UNPACK` (41_frame_codec.md R130 to R140): what a frame decodes to, by its checksum, its power bit and its mode, and the
state the command ends in. -/

namespace Sys2Proof.Machine

/-! ### The command's end -/

section
variable {s : State} {strict : Bool} (hs : s.cfg.strict = some strict)
include hs

theorem exec_unpack_of_error {e : DecodeError} (h : unpackFrame s.inp.frameIn strict s.climate = .error e) :
    exec .unpack s = .next (endWithError e (frameWarn s.inp.frameIn strict) id s) :=
  execUnpack_next.2 ⟨strict, hs, .inl ⟨e, h, rfl⟩⟩

theorem exec_unpack_of_ok {r : ClimateRecord} (h : unpackFrame s.inp.frameIn strict s.climate = .ok r) :
    exec .unpack s = .next (endWithRecord r (frameWarn s.inp.frameIn strict) id s) :=
  execUnpack_next.2 ⟨strict, hs, .inr ⟨r, h, rfl⟩⟩

end

/-! ### The checksum (R131) -/

section
variable {F : Frame} {strict : Bool} {prior : ClimateRecord}

theorem unpackFrame_of_strict_mismatch (h : checksum F ≠ sumField F) :
    unpackFrame F true prior = .error (.checksumMismatch (checksum F) (sumField F)) :=
  if_pos ⟨h, rfl⟩

theorem frameWarn_of_mismatch (h : checksum F ≠ sumField F) : frameWarn F strict = !strict := by
  simp [frameWarn, csumWarn, h]

section
variable (hgo : goesOn F strict)
include hgo

theorem not_strict_mismatch_of_goesOn : ¬(checksum F ≠ sumField F ∧ strict = true) := by
  rintro ⟨hne, rfl⟩
  exact hgo.elim hne Bool.noConfusion

/-- A decode that goes on warns exactly when the checksums differ: its flag is the warning word in numbers. -/
theorem frameWarn_toNat_of_goesOn : (frameWarn F strict).toNat * 2 ^ 4 = warnWord F := by
  by_cases heq : checksum F = sumField F
  · simp [frameWarn, csumWarn, warnWord, heq]
  · have hlenient : strict = false := hgo.resolve_left heq
    simp [frameWarn_of_mismatch heq, warnWord, heq, hlenient]

/-! ### The power bit and the mode (R132, R133) -/

theorem unpackFrame_of_power_off (hp : frameGet F .power = 0#8) : unpackFrame F strict prior = .ok (powerOffRecord prior) := by
  rw [unpackFrame, if_neg (not_strict_mismatch_of_goesOn hgo), if_pos hp]

variable (hp : frameGet F .power ≠ 0#8)
include hp

theorem unpackFrame_of_mode {m : Mode} (hm : modeOfCode (frameGet F .mode) = some m) :
    unpackFrame F strict prior = .ok (powerOnRecord F m) := by
  simp only [unpackFrame, if_neg (not_strict_mismatch_of_goesOn hgo), if_neg hp, hm]

theorem unpackFrame_of_unknown_mode (hm : modeOfCode (frameGet F .mode) = none) :
    unpackFrame F strict prior = .error (.unknownMode ((frameGet F .mode).setWidth 3)) := by
  simp only [unpackFrame, if_neg (not_strict_mismatch_of_goesOn hgo), if_neg hp, hm]

end

/-- A lenient decode has one way to fail. -/
theorem unknownMode_of_lenient_error {e : DecodeError} (h : unpackFrame F false prior = .error e) : ∃ raw, e = .unknownMode raw := by
  have hgo : goesOn F false := .inr rfl
  by_cases hp : frameGet F .power = 0#8
  · rw [unpackFrame_of_power_off hgo hp] at h
    cases h
  · cases hm : modeOfCode (frameGet F .mode) with
    | some m =>
      rw [unpackFrame_of_mode hgo hp hm] at h
      cases h
    | none =>
      rw [unpackFrame_of_unknown_mode hgo hp hm] at h
      exact ⟨_, (Except.error.inj h).symm⟩

end

/-- Settles O16: a strict decode ends at the checksum; a lenient one ends in a record or in `UnknownMode`, with the warning bit either
way. -/
theorem unpackValidatesTheChecksumFirst : Obligations.UnpackValidatesTheChecksumFirst := by
  unfold Obligations.UnpackValidatesTheChecksumFirst
  intro s strict hs hne
  cases strict with
  | true =>
    refine ⟨_, exec_unpack_of_error hs (unpackFrame_of_strict_mismatch hne), endWithError_cfg .., endWithError_climate ..,
      ⟨endWithError_inp .., endWithError_host ..⟩, fun _ => ⟨endWithError_result .., ?status⟩, Bool.noConfusion⟩
    case status =>
      rw [endWithError_status, errorStatus_toNat, frameWarn_of_mismatch hne]
      rfl
  | false =>
    cases h : unpackFrame s.inp.frameIn false s.climate with
    | error e =>
      obtain ⟨raw, rfl⟩ := unknownMode_of_lenient_error h
      refine ⟨_, exec_unpack_of_error hs h, endWithError_cfg .., endWithError_climate ..,
        ⟨endWithError_inp .., endWithError_host ..⟩, Bool.noConfusion, fun _ => ⟨?status, ?result⟩⟩
      case status =>
        rw [endWithError_status, errorStatus_toNat, frameWarn_of_mismatch hne]
        simp only [errorWord, Bool.not_false, Bool.toNat_true]
        omega
      case result => simp
    | ok r =>
      refine ⟨_, exec_unpack_of_ok hs h, endWithRecord_cfg .., endWithRecord_climate ..,
        ⟨endWithRecord_inp .., endWithRecord_host ..⟩, Bool.noConfusion, fun _ => ⟨?status, ?result⟩⟩
      case status =>
        rw [endWithRecord_status, okStatus_toNat, frameWarn_of_mismatch hne]
        rfl
      case result => simp

/-! ### The decoded record (R132 to R137) -/

theorem modeOfCode_eq_modeTable (v : Byte) : modeOfCode v = modeTable[v.toNat]? := by
  revert v
  decide +kernel

theorem fanOfCode_eq (v : Byte) (hv : v.toNat < 4) : fanOfCode v =
    if v.toNat = 0 then .auto else if v.toNat = 1 then .low else if v.toNat = 2 then .medium else .high := by
  revert v
  decide +kernel

theorem swingOfPair_eq (v h : Prop) [Decidable v] [Decidable h] : swingOfPair v h =
    if v ∧ h then .both else if v then .vertical else if h then .horizontal else .off := by
  by_cases v <;> by_cases h <;> simp [swingOfPair, *]

theorem powerOnRecord_eq_decodedRecord (F : Frame) (m : Mode) : powerOnRecord F m = decodedRecord F m := by
  have hfan : (frameGet F .fan).toNat < 4 := by
    rw [frameGet_toNat]
    exact bitsOf_lt ..
  simp only [powerOnRecord, decodedRecord, fanOfCode_eq _ hfan, swingOfPair_eq, frameGet_eq_iff, frameGet_toNat]
  rfl

/-- A decode that went on to a record: it is on both ports, and only `STATUS` changed, to the warning word. -/
theorem exec_unpack_goes_on_to_record {s : State} {strict : Bool} {r : ClimateRecord} (hs : s.cfg.strict = some strict)
    (hgo : goesOn s.inp.frameIn strict) (h : unpackFrame s.inp.frameIn strict s.climate = .ok r) :
    ∃ t, exec .unpack s = .next t ∧ t.cfg = s.cfg ∧ t.climate = s.climate ∧ inputsKept s t ∧
      t.out.result = .okRecord r ∧ t.out.cmdOut = r ∧ t.status.toNat = warnWord s.inp.frameIn := by
  refine ⟨_, exec_unpack_of_ok hs h, endWithRecord_cfg .., endWithRecord_climate .., ⟨endWithRecord_inp .., endWithRecord_host ..⟩,
    endWithRecord_result .., endWithRecord_cmdOut .., ?status⟩
  case status => rw [endWithRecord_status, okStatus_toNat, frameWarn_toNat_of_goesOn hgo]

/-- Settles O17: the record of a power-off frame is the prior one turned off. -/
theorem unpackOfPowerOffKeepsThePriorFields : Obligations.UnpackOfPowerOffKeepsThePriorFields := by
  unfold Obligations.UnpackOfPowerOffKeepsThePriorFields
  intro s strict hs hgo hoff
  exact exec_unpack_goes_on_to_record hs hgo (unpackFrame_of_power_off hgo ((frameGet_eq_iff _ .power _).2 hoff))

/-- Settles O18: the mode's code is looked up in the table; a code that is there gives the record, one past its end `UnknownMode`. -/
theorem unpackOfPowerOnDecodesEveryField : Obligations.UnpackOfPowerOnDecodesEveryField := by
  unfold Obligations.UnpackOfPowerOnDecodesEveryField
  intro s strict hs hgo hon
  have hp : frameGet s.inp.frameIn .power ≠ 0#8 := by
    rw [(frameGet_eq_iff s.inp.frameIn .power 1#8).2 hon]
    decide
  have hcode : (frameGet s.inp.frameIn .mode).toNat = bitsOf s.inp.frameIn[0] 0 3 := frameGet_toNat s.inp.frameIn .mode
  have htable := modeOfCode_eq_modeTable (frameGet s.inp.frameIn .mode)
  rw [hcode] at htable
  cases hm : modeOfCode (frameGet s.inp.frameIn .mode) with
  | some m =>
    rw [hm] at htable
    obtain ⟨t, ht, hcfg, hclimate, hinputs, hresult, hcmdOut, hstatus⟩ :=
      exec_unpack_goes_on_to_record hs hgo (unpackFrame_of_mode hgo hp hm)
    rw [powerOnRecord_eq_decodedRecord] at hresult hcmdOut
    refine ⟨t, ht, hcfg, hclimate, hinputs, fun m' hm' => ?known, fun h5 => ?unknown⟩
    case known =>
      cases htable.trans hm'
      exact ⟨hresult, hcmdOut, hstatus⟩
    case unknown =>
      rw [List.getElem?_eq_none h5] at htable
      cases htable
  | none =>
    rw [hm] at htable
    refine ⟨_, exec_unpack_of_error hs (unpackFrame_of_unknown_mode hgo hp hm), endWithError_cfg .., endWithError_climate ..,
      ⟨endWithError_inp .., endWithError_host ..⟩, fun m hm' => ?known, fun _ => ⟨?result, ?status⟩⟩
    case known => cases htable.trans hm'
    case result => rw [endWithError_result, ← hcode, BitVec.ofNat_toNat]
    case status =>
      rw [endWithError_status, errorStatus_toNat, frameWarn_toNat_of_goesOn hgo]
      rw [errorWord, BitVec.toNat_setWidth, hcode, Nat.mod_eq_of_lt (bitsOf_lt ..)]
      omega

end Sys2Proof.Machine
end

section
/-! PROOFS. `RESOLVE` (42_timing_profile.md R150, R151): the profile table row by row, and the codes that are refused. -/

namespace Sys2Proof.Machine

/-- The model's table and the rows of R150 hold the same durations at every code, and end at the same code. -/
theorem profileRows_getElem?_eq_map_modelOf (n : Nat) :
    profileRows[n]? = (modelOf n).map fun v => durations (profileOf v) := by
  rcases n with _ | _ | _ | _ | _ | n <;> rfl

section
variable {m : BitVec 3} (s : State)

/-- `RESOLVE` asks nothing of the state and names one port. -/
theorem exec_resolve_of_model {v : Model} (h : modelOf m.toNat = some v) :
    exec (.resolve m) s = .next (complete s fun o => { o with profileOut := profileOf v }) :=
  execResolve_next.2 ⟨v, h, rfl⟩

theorem exec_resolve_of_no_model (h : modelOf m.toNat = none) : exec (.resolve m) s = .refused .modelReserved := by
  change execResolve m s = _
  rw [execResolve, h]

end

/-- Settles O22: a code with a row is a model's code, so `RESOLVE` completes with that model's profile on its port; from code 5 on
there is no model (log 10 gives the reason of the refusal). -/
theorem resolveGivesTheTableRow : Obligations.ResolveGivesTheTableRow := by
  unfold Obligations.ResolveGivesTheTableRow
  refine fun s m => ⟨fun row hrow => ?completes, fun h5 => exec_resolve_of_no_model s (modelOf_eq_none.2 h5)⟩
  case completes =>
    rw [profileRows_getElem?_eq_map_modelOf, Option.map_eq_some_iff] at hrow
    obtain ⟨v, hv, hdurations⟩ := hrow
    refine ⟨_, exec_resolve_of_model s hv, ⟨complete_cfg .., complete_climate .., complete_status ..⟩,
      ⟨complete_inp .., complete_host ..⟩, ?profileOut⟩
    case profileOut => rw [complete_out, hdurations]

end Sys2Proof.Machine
end

section
/-! PROOFS. `ENCP` (43_pulse_encoder.md R160 to R162): a repetition is its 70 symbols in order (30_encoding.md R82), two entries each,
so every entry of the output is found by its place. -/

namespace Sys2Proof.Machine

/-! ### The symbols of a repetition -/

/-- The symbol of a bit (30_encoding.md R81). -/
def bitSymbol (v : Bool) : Symbol := if v then .one else .zero

/-- The symbols of whole bytes of the frame, in the order of the encoder (20_memory.md R52). -/
def byteSymbols (F : Frame) (bs : List (Fin 8)) : List Symbol := bs.flatMap fun b => lsbFirst.map (dataSymbol F b.val)

/-- R82's layout as a list: header, bytes 0 to 3, footer, message space, bytes 4 to 7, message space. -/
def layoutSymbols (F : Frame) : List Symbol :=
  .hdr :: byteSymbols F [0, 1, 2, 3] ++ [.zero, .one, .zero, .msg] ++ byteSymbols F [4, 5, 6, 7] ++ [.msg]

/-- A symbol sent under a profile: its mark, then its space. -/
def symbolCell (p : TimingProfile) (y : Symbol) : PulseSeq := [(symbolEntries p y).1, (symbolEntries p y).2]

/-- The list counts the same places as R82's numbers. -/
theorem layoutSymbols_eq_map_symbolAt (F : Frame) : layoutSymbols F = (List.range 70).map (symbolAt F) := rfl

theorem layoutSymbols_getElem? (F : Frame) {n : Nat} (hn : n < 70) : (layoutSymbols F)[n]? = some (symbolAt F n) := by
  rw [layoutSymbols_eq_map_symbolAt, List.getElem?_map, List.getElem?_range hn, Option.map_some]

/-! ### The encoder sends the symbols in order -/

section
variable (p : TimingProfile) (F : Frame)

theorem bitCell_eq_symbolCell (v : Bool) : bitCell p v = symbolCell p (bitSymbol v) := by
  cases v <;> rfl

theorem byteCells_eq_flatMap (b : Byte) (ks : List Nat) :
    byteCells p b ks = (ks.map fun k => bitSymbol (b.getLsbD k)).flatMap (symbolCell p) := by
  induction ks with
  | nil => rfl
  | cons k ks ih => rw [byteCells, ih, bitCell_eq_symbolCell, List.map_cons, List.flatMap_cons]

theorem dataSymbol_eq_bitSymbol (b : Fin 8) : dataSymbol F b.val = fun k => bitSymbol (F[b].getLsbD k) := by
  funext k
  rw [dataSymbol, frameBit_eq_getLsbD, bitSymbol]

theorem frameCells_eq_flatMap (bs : List (Fin 8)) : frameCells p F bs = (byteSymbols F bs).flatMap (symbolCell p) := by
  induction bs with
  | nil => rfl
  | cons b bs ih =>
    rw [frameCells, ih, byteCells_eq_flatMap, ← dataSymbol_eq_bitSymbol, ← List.flatMap_append]
    rfl

theorem repetition_eq_flatMap : repetition p F = (layoutSymbols F).flatMap (symbolCell p) := by
  simp only [repetition, layoutSymbols, frameCells_eq_flatMap, List.flatMap_append, List.flatMap_cons, List.append_assoc]
  rfl

/-! ### Entries by place -/

/-- Two entries for each symbol: the mark at the even place, the space at the odd one. -/
theorem flatMap_symbolCell_getElem? (ys : List Symbol) (j : Nat) : (ys.flatMap (symbolCell p))[j]? =
    ys[j / 2]?.map fun y => if j % 2 = 0 then (symbolEntries p y).1 else (symbolEntries p y).2 := by
  induction ys generalizing j with
  | nil => simp
  | cons y ys ih =>
    match j with
    | 0 | 1 => rfl
    | j + 2 =>
      rw [Nat.add_div_right j two_pos, Nat.add_mod_right, List.getElem?_cons_succ, ← ih]
      rfl

theorem repetition_getElem? {j : Nat} (hj : j < 140) : (repetition p F)[j]? = some (entryAt p F j) := by
  rw [repetition_eq_flatMap, flatMap_symbolCell_getElem?, layoutSymbols_getElem? F (by omega), Option.map_some, entryAt,
    Nat.mod_eq_of_lt hj]

/-- The layout starts again after 140 entries (R161). -/
theorem entryAt_add_repetition (j : Nat) : entryAt p F (j + 140) = entryAt p F j := by
  rw [entryAt, entryAt, Nat.add_mod_right, Nat.add_mod j 140 2, Nat.add_zero, Nat.mod_mod]

/-- Place `j` lies in the first repetition, or 140 entries further back in the rest. -/
theorem repetitions_getElem? {n j : Nat} (hj : j < 140 * n) : (repetitions p F n)[j]? = some (entryAt p F j) := by
  induction n generalizing j with
  | zero => omega
  | succ n ih =>
    rw [repetitions]
    by_cases hfirst : j < 140
    · rw [List.getElem?_append_left (by rwa [repetition_length]), repetition_getElem? p F hfirst]
    · have hback : j - 140 + 140 = j := by omega
      rw [List.getElem?_append_right (by rw [repetition_length]; omega), repetition_length, ih (by omega),
        ← entryAt_add_repetition, hback]

end

/-! ### The command -/

/-- The encoder's test of the profile (42_timing_profile.md R153) finds exactly a duration of 0. -/
theorem profileLegal_iff_not_zeroDuration (p : TimingProfile) : profileLegal p = true ↔ ¬zeroDuration p := by
  simp [profileLegal_eq_true, zeroDuration, durations, BitVec.toNat_eq, @eq_comm Nat 0]

theorem exec_encp_of_legal (s : State) {n : Byte} (hn : n.toNat ≠ 0) (hp : ¬zeroDuration s.inp.profileIn) :
    exec (.encp n) s = .next (complete s fun o =>
      { o with
        pulseOut := repetitions s.inp.profileIn s.inp.frameIn n.toNat
        carrierOut := Config.carrierHz }) :=
  execEncp_next.2 ⟨mt (congrArg BitVec.toNat) hn, (profileLegal_iff_not_zeroDuration _).2 hp, rfl⟩

/-- Settles O23: `ENCP` completes with the repetitions, whose length is known and whose entry at each place is the layout's. -/
theorem encpEmitsEveryEntryAtItsPlace : Obligations.EncpEmitsEveryEntryAtItsPlace := by
  unfold Obligations.EncpEmitsEveryEntryAtItsPlace
  intro s n hn hp
  refine ⟨_, exec_encp_of_legal s hn hp, ⟨complete_cfg .., complete_climate .., complete_status ..⟩,
    ⟨complete_inp .., complete_host ..⟩, ?length, ?carrier, fun j hj => ?entry⟩
  case length => rw [complete_out, repetitions_length]
  case carrier => rw [complete_out, Config.carrierHz]
  case entry => rw [complete_out, repetitions_getElem? _ _ hj]

end Sys2Proof.Machine
end

section
/-! PROOFS. The pulse decoder's loops by places (44_pulse_decoder.md R182 to R189): the cursor of the loop that reads bit `k` of byte
`b` stands at the place of that bit, so what the loop answers is told by the cells at those places. -/

namespace Sys2Proof.Machine

/-! ### Runs of indices -/

/-- `ks` is the run of consecutive indices from `lo` on, as the decoder's loops take the bits and the bytes. -/
def IndexRun (lo : Nat) (ks : List (Fin 8)) : Prop := ks.map Fin.val = List.range' lo ks.length

section
variable {lo : Nat} {k : Fin 8} {ks : List (Fin 8)}

theorem indexRun_cons : IndexRun lo (k :: ks) ↔ k.val = lo ∧ IndexRun (lo + 1) ks := by
  simp [IndexRun, List.range'_succ]

theorem mem_indexRun (h : IndexRun lo ks) : k ∈ ks ↔ lo ≤ k.val ∧ k.val < lo + ks.length := by
  rw [← List.mem_map_of_injective Fin.val_injective, h, List.mem_range'_1]

theorem indexRun_head_not_mem (h : IndexRun lo (k :: ks)) : k ∉ ks := by
  obtain ⟨hk, hrun⟩ := indexRun_cons.1 h
  rw [mem_indexRun hrun]
  omega

/-- To agree off `ks` with a function changed at `k` is to agree with the new value at `k`, and off `k` and `ks` with the old
function. -/
theorem forall_not_mem_update {α : Type} {a r : Fin 8 → α} {v : α} (hk : k ∉ ks) :
    (∀ n, n ∉ ks → r n = Function.update a k v n) ↔ r k = v ∧ ∀ n, n ∉ k :: ks → r n = a n := by
  simp only [List.mem_cons, not_or]
  constructor
  · intro h
    refine ⟨(h k hk).trans (Function.update_self ..), fun n hn => ?_⟩
    rw [h n hn.2, Function.update_of_ne hn.1]
  · rintro ⟨hself, hkeep⟩ n hn
    by_cases hne : n = k
    · rw [hne, hself, Function.update_self]
    · rw [Function.update_of_ne hne, hkeep n ⟨hne, hn⟩]

end

/-! ### One cell (R185) -/

section
variable {tol : Nat} {p : TimingProfile} {P : PulseSeq}

theorem readCell_eq_some {i : Nat} {v : Bool} : readCell tol p P i = some v ↔ carries tol p P i v := by
  cases v with
  | false => exact readCell_false
  | true => exact readCell_true

theorem isCell_iff_carries {i : Nat} : isCell tol p P i ↔ ∃ v, carries tol p P i v :=
  Or.comm.trans (Bool.exists_bool (p := carries tol p P i)).symm

theorem readCell_eq_none {i : Nat} : readCell tol p P i = none ↔ ¬isCell tol p P i := by
  simp only [Option.eq_none_iff_forall_ne_some, ne_eq, readCell_eq_some, isCell_iff_carries, not_exists]

/-- A cell carries one bit at most. -/
theorem carries_iff_eq {i : Nat} {v w : Bool} (hv : carries tol p P i v) : carries tol p P i w ↔ w = v := by
  rw [← readCell_eq_some, readCell_eq_some.2 hv, Option.some.injEq, eq_comm]

/-! ### The bits of a byte (R185) -/

/-- The byte read so far, after one more bit. -/
def putBit (acc : Byte) (k : Fin 8) (v : Bool) : Byte := if v then acc ||| (1#8 <<< k.val) else acc

theorem putBit_getLsbD {acc : Byte} {k : Fin 8} (hacc : acc.getLsbD k = false) (v : Bool) (n : Fin 8) :
    (putBit acc k v).getLsbD n = Function.update (fun m : Fin 8 => acc.getLsbD m) k v n := by
  cases v with
  | false =>
    have hsame := congrFun (Function.update_eq_self k fun m : Fin 8 => acc.getLsbD m) n
    rw [hacc] at hsame
    exact hsame.symm
  | true =>
    have hbit : ∀ k n : Fin 8, (1#8 <<< k.val).getLsbD n = decide (n = k) := by decide
    rw [putBit, if_pos rfl, BitVec.getLsbD_or, hbit, Function.update_apply]
    split <;> simp [*]

theorem readBits_of_carries {i : Nat} {v : Bool} (h : carries tol p P i v) (k : Fin 8) (ks : List (Fin 8)) (acc : Byte) :
    readBits tol p P i (k :: ks) acc = readBits tol p P (i + 2) ks (putBit acc k v) := by
  rw [readBits, readCell_eq_some.2 h]
  cases v <;> rfl

theorem readBits_of_not_isCell {i : Nat} (h : ¬isCell tol p P i) (k : Fin 8) (ks : List (Fin 8)) (acc : Byte) :
    readBits tol p P i (k :: ks) acc = .error k := by
  rw [readBits, readCell_eq_none.2 h]

/-- The bits are read exactly when the cell of each carries it; the other bits stay. -/
theorem readBits_eq_ok {base lo : Nat} {ks : List (Fin 8)} {acc r : Byte} (hrun : IndexRun lo ks)
    (hacc : ∀ k ∈ ks, acc.getLsbD k = false) :
    readBits tol p P (base + 2 * lo) ks acc = .ok r ↔
      (∀ n : Fin 8, n ∉ ks → r.getLsbD n = acc.getLsbD n) ∧ ∀ k ∈ ks, carries tol p P (base + 2 * k) (r.getLsbD k) := by
  induction ks generalizing lo acc with
  | nil =>
    simp only [readBits, Except.ok.injEq, List.not_mem_nil, not_false_eq_true, forall_const, false_implies, and_true]
    exact ⟨fun h n => by rw [h], fun h => BitVec.eq_of_getLsbD_eq fun n hn => (h ⟨n, hn⟩).symm⟩
  | cons k ks ih =>
    have hnew := indexRun_head_not_mem hrun
    obtain ⟨rfl, hrest⟩ := indexRun_cons.1 hrun
    obtain ⟨hk, hks⟩ := List.forall_mem_cons.1 hacc
    rw [List.forall_mem_cons]
    by_cases hcell : isCell tol p P (base + 2 * k)
    · obtain ⟨v, hv⟩ := isCell_iff_carries.1 hcell
      have hacc' : ∀ n ∈ ks, (putBit acc k v).getLsbD n = false := fun n hn => by
        rw [putBit_getLsbD hk, Function.update_of_ne (ne_of_mem_of_not_mem hn hnew), hks n hn]
      rw [readBits_of_carries hv, Nat.add_assoc, ← Nat.mul_succ, ih hrest hacc', carries_iff_eq hv]
      simp only [putBit_getLsbD hk, forall_not_mem_update hnew, and_assoc, and_left_comm]
    · rw [readBits_of_not_isCell hcell]
      exact iff_of_false nofun fun ⟨_, hcarry, _⟩ => hcell (isCell_iff_carries.2 ⟨_, hcarry⟩)

/-- The bit reported is the first whose pair is no bit cell. -/
theorem readBits_eq_error {base lo : Nat} {ks : List (Fin 8)} {acc : Byte} {k : Fin 8} (hrun : IndexRun lo ks)
    (h : readBits tol p P (base + 2 * lo) ks acc = .error k) :
    ¬isCell tol p P (base + 2 * k) ∧ ∀ k', lo ≤ k' → k' < k.val → isCell tol p P (base + 2 * k') := by
  induction ks generalizing lo acc with
  | nil => cases h
  | cons k₀ ks ih =>
    obtain ⟨rfl, hrest⟩ := indexRun_cons.1 hrun
    by_cases hcell : isCell tol p P (base + 2 * k₀)
    · obtain ⟨v, hv⟩ := isCell_iff_carries.1 hcell
      have hcursor : base + 2 * k₀.val + 2 = base + 2 * (k₀.val + 1) := by omega
      rw [readBits_of_carries hv, hcursor] at h
      obtain ⟨hbad, hbefore⟩ := ih hrest h
      refine ⟨hbad, fun k' hlo hk' => ?_⟩
      rcases hlo.eq_or_lt with rfl | hlo
      · exact hcell
      · exact hbefore k' hlo hk'
    · rw [readBits_of_not_isCell hcell] at h
      cases h
      exact ⟨hcell, fun k' hlo hk' => by omega⟩

theorem indexRun_byte : IndexRun 0 [0, 1, 2, 3, 4, 5, 6, 7] := rfl

/-- A whole byte is read from place `i` on. -/
theorem readBits_byte_eq_ok {i : Nat} {v : Byte} : readBits tol p P i [0, 1, 2, 3, 4, 5, 6, 7] 0#8 = .ok v ↔
    ∀ k : Fin 8, carries tol p P (i + 2 * k) (v.getLsbD k) := by
  have hall : ∀ k : Fin 8, k ∈ ([0, 1, 2, 3, 4, 5, 6, 7] : List (Fin 8)) := by decide
  have hread := readBits_eq_ok (tol := tol) (p := p) (P := P) (base := i) (r := v) indexRun_byte fun _ _ => BitVec.getLsbD_zero
  simpa only [Nat.mul_zero, Nat.add_zero, hall, not_true_eq_false, false_implies, implies_true, true_and, true_implies] using hread

/-- The footer is tested by reading `0b010` (R186). -/
theorem footerMatches_eq_true : footerMatches tol p P = true ↔ footerReads tol p P := by
  have hread : footerMatches tol p P = true ↔ readBits tol p P 66 [0, 1, 2] 0#8 = .ok 0b010#8 := by
    unfold footerMatches
    cases readBits tol p P 66 [0, 1, 2] 0#8 <;> simp
  have hrun : IndexRun 0 [0, 1, 2] := rfl
  have hkeep : ∀ n : Fin 8, n ∉ ([0, 1, 2] : List (Fin 8)) → (0b010#8).getLsbD n = (0#8).getLsbD n := by decide
  refine hread.trans ((readBits_eq_ok (base := 66) hrun fun _ _ => BitVec.getLsbD_zero).trans ?_)
  simp only [List.forall_mem_cons, List.not_mem_nil, false_implies, implies_true, and_true]
  exact and_iff_right hkeep

/-! ### The bytes of a half (R185, R188) -/

theorem frame_set_getElem (F : Frame) (b c : Fin 8) (v : Byte) :
    (F.set b v)[c] = Function.update (fun n : Fin 8 => F[n]) b v c := by
  by_cases hc : c = b
  · rw [hc, frame_set_getElem_self, Function.update_self]
  · rw [Function.update_of_ne hc, frame_set_getElem_ne F v (Ne.symm hc)]

theorem readBytes_cons_ok {i : Nat} {b : Fin 8} {v : Byte} (h : readBits tol p P i [0, 1, 2, 3, 4, 5, 6, 7] 0#8 = .ok v)
    (bs : List (Fin 8)) (F : Frame) :
    readBytes tol p P i (b :: bs) F = readBytes tol p P (i + 16) bs (F.set b v) := by
  rw [readBytes, h]

theorem readBytes_cons_error {i : Nat} {b k : Fin 8} (h : readBits tol p P i [0, 1, 2, 3, 4, 5, 6, 7] 0#8 = .error k)
    (bs : List (Fin 8)) (F : Frame) : readBytes tol p P i (b :: bs) F = .error (.bitDecode b k) := by
  rw [readBytes, h]

/-- `bs` is the run of bytes from `lo` on, and their cells are those from place `i` on. -/
structure CellRun (i lo : Nat) (bs : List (Fin 8)) : Prop where
  run : IndexRun lo bs
  place : ∀ b k, lo ≤ b → b < lo + bs.length → cellIndex b k = i + 16 * (b - lo) + 2 * k

theorem cellRun_cons {i lo : Nat} {b : Fin 8} {bs : List (Fin 8)} (h : CellRun i lo (b :: bs)) :
    b.val = lo ∧ (∀ k, cellIndex b k = i + 2 * k) ∧ CellRun (i + 16) (lo + 1) bs := by
  obtain ⟨hrun, hplace⟩ := h
  obtain ⟨hb, hrest⟩ := indexRun_cons.1 hrun
  rw [List.length_cons] at hplace
  refine ⟨hb, fun k => ?_, hrest, fun b' k hlo hhi => ?_⟩
  · have := hplace b k (by omega) (by omega)
    omega
  · have := hplace b' k (by omega) (by omega)
    omega

/-- Bytes 0 to 3 (R185). -/
theorem cellRun_first : CellRun 2 0 [0, 1, 2, 3] := by
  refine ⟨rfl, fun b k _ (hb : b < 4) => ?_⟩
  rw [cellIndex, if_pos hb, Nat.sub_zero]

/-- Bytes 4 to 7 (R188). -/
theorem cellRun_last : CellRun 74 4 [4, 5, 6, 7] := by
  refine ⟨rfl, fun b k hb _ => ?_⟩
  rw [cellIndex, if_neg (by omega)]

section
variable {i lo : Nat} {bs : List (Fin 8)} {F : Frame}

/-- The bytes are read exactly when the cell of each of their bits carries it; the other bytes stay. -/
theorem readBytes_eq_ok {G : Frame} (hrun : CellRun i lo bs) :
    readBytes tol p P i bs F = .ok G ↔
      (∀ b : Fin 8, b ∉ bs → G[b] = F[b]) ∧ ∀ b ∈ bs, ∀ k : Fin 8, carries tol p P (cellIndex b k) (G[b].getLsbD k) := by
  induction bs generalizing i lo F with
  | nil =>
    simp only [readBytes, Except.ok.injEq, List.not_mem_nil, not_false_eq_true, forall_const, false_implies, and_true]
    exact ⟨fun h b => by rw [h], fun h => frame_ext fun b => (h b).symm⟩
  | cons b bs ih =>
    have hnew := indexRun_head_not_mem hrun.run
    obtain ⟨-, hplace, hrest⟩ := cellRun_cons hrun
    simp only [List.forall_mem_cons, hplace, ← readBits_byte_eq_ok]
    cases hbits : readBits tol p P i [0, 1, 2, 3, 4, 5, 6, 7] 0#8 with
    | ok v =>
      rw [readBytes_cons_ok hbits, ih hrest]
      simp only [frame_set_getElem, forall_not_mem_update hnew, Except.ok.injEq, and_assoc, and_left_comm, eq_comm]
    | error k =>
      rw [readBytes_cons_error hbits]
      exact iff_of_false nofun fun ⟨_, hread, _⟩ => nomatch hread

/-- The bit reported is the first, byte after byte, whose pair is no bit cell. -/
theorem readBytes_eq_error {e : DecodeError} (hrun : CellRun i lo bs) (h : readBytes tol p P i bs F = .error e) :
    ∃ b ∈ bs, ∃ k : Fin 8, e = .bitDecode b k ∧ ¬isCell tol p P (cellIndex b k) ∧ cellsBefore tol p P lo b k := by
  induction bs generalizing i lo F with
  | nil => cases h
  | cons b₀ bs ih =>
    obtain ⟨rfl, hplace, hrest⟩ := cellRun_cons hrun
    cases hbits : readBits tol p P i [0, 1, 2, 3, 4, 5, 6, 7] 0#8 with
    | ok v =>
      rw [readBytes_cons_ok hbits] at h
      obtain ⟨b, hb, k, he, hbad, hbefore⟩ := ih hrest h
      refine ⟨b, List.mem_cons_of_mem _ hb, k, he, hbad, fun b' k' hlo hk' hlt => ?_⟩
      rcases hlo.eq_or_lt with rfl | hlo
      · rw [hplace]
        exact isCell_iff_carries.2 ⟨_, readBits_byte_eq_ok.1 hbits ⟨k', hk'⟩⟩
      · exact hbefore b' k' hlo hk' hlt
    | error k =>
      rw [readBytes_cons_error hbits] at h
      obtain ⟨hbad, hbefore⟩ := readBits_eq_error (base := i) indexRun_byte hbits
      refine ⟨b₀, List.mem_cons_self, k, (Except.error.inj h).symm, hplace k ▸ hbad, fun b' k' hlo hk' hlt => ?_⟩
      obtain rfl : b' = b₀.val := by omega
      exact hplace k' ▸ hbefore k' (Nat.zero_le _) (by omega)

theorem readBytes_of_cells (hrun : CellRun i lo bs) (h : ∀ b ∈ bs, ∀ k : Fin 8, isCell tol p P (cellIndex b k)) :
    ∃ G, readBytes tol p P i bs F = .ok G := by
  cases hread : readBytes tol p P i bs F with
  | ok G => exact ⟨G, rfl⟩
  | error e =>
    obtain ⟨b, hb, k, -, hbad, -⟩ := readBytes_eq_error hrun hread
    exact absurd (h b hb k) hbad

/-- At most one pair that is no bit cell has only bit cells before it, so that is the one reported. -/
theorem readBytes_of_first_bad_cell (hrun : CellRun i lo bs) {b k : Fin 8} (hb : b ∈ bs) (hbefore : cellsBefore tol p P lo b k)
    (hbad : ¬isCell tol p P (cellIndex b k)) : readBytes tol p P i bs F = .error (.bitDecode b k) := by
  cases hread : readBytes tol p P i bs F with
  | ok G =>
    have hcarry := ((readBytes_eq_ok hrun).1 hread).2 b hb k
    exact absurd (isCell_iff_carries.2 ⟨_, hcarry⟩) hbad
  | error e =>
    obtain ⟨b', hb', k', rfl, hbad', hbefore'⟩ := readBytes_eq_error hrun hread
    have hlo := ((mem_indexRun hrun.run).1 hb).1
    have hlo' := ((mem_indexRun hrun.run).1 hb').1
    have hle : 8 * b'.val + k'.val ≤ 8 * b.val + k.val := not_lt.1 fun hlt => hbad (hbefore' b k hlo k.isLt hlt)
    have hle' : 8 * b.val + k.val ≤ 8 * b'.val + k'.val := not_lt.1 fun hlt => hbad' (hbefore b' k' hlo' k'.isLt hlt)
    obtain rfl : b' = b := by omega
    obtain rfl : k' = k := by omega
    rfl

end

end

end Sys2Proof.Machine
end

section
/-! PROOFS. `DECP` (44_pulse_decoder.md R180 to R192): the stages in their order, which of them ends the decode and how, and the state
the command ends in. -/

namespace Sys2Proof.Machine

/-! ### The stages in order (R180) -/

/-- One of the stages after the length check is the first to fail, with the error `e`. -/
def failsAfterLength (tol : Nat) (p : TimingProfile) (P : PulseSeq) (e : DecodeError) : Prop :=
  (pairAt tol P 0 p.headerMark p.headerSpace = false ∧ e = .headerMismatch) ∨
    pairAt tol P 0 p.headerMark p.headerSpace = true ∧
      (readBytes tol p P 2 [0, 1, 2, 3] zeroFrame = .error e ∨
        ∃ G, readBytes tol p P 2 [0, 1, 2, 3] zeroFrame = .ok G ∧
          ((¬footerReads tol p P ∧ e = .footerMismatch) ∨
            footerReads tol p P ∧
              ((pairAt tol P 72 p.bitMark p.messageSpace = false ∧ e = .messageSpaceMismatch) ∨
                pairAt tol P 72 p.bitMark p.messageSpace = true ∧ readBytes tol p P 74 [4, 5, 6, 7] G = .error e)))

section
variable {tol : Nat} {p : TimingProfile} {P : PulseSeq}

theorem decodePulses_eq_ok {F : Frame} : decodePulses tol p P = .ok F ↔
    130 ≤ P.length ∧ P.length ≤ 150 ∧ pairAt tol P 0 p.headerMark p.headerSpace = true ∧
      ∃ G, readBytes tol p P 2 [0, 1, 2, 3] zeroFrame = .ok G ∧ footerReads tol p P ∧
        pairAt tol P 72 p.bitMark p.messageSpace = true ∧ readBytes tol p P 74 [4, 5, 6, 7] G = .ok F := by
  unfold decodePulses Config.pulseMin Config.pulseMax
  rw [← footerMatches_eq_true]
  by_cases hshort : P.length < 130
  · simp [hshort]
  have hmin : 130 ≤ P.length := not_lt.1 hshort
  by_cases hlong : 150 < P.length
  · simp [hshort, hlong]
  have hmax : P.length ≤ 150 := not_lt.1 hlong
  cases pairAt tol P 0 p.headerMark p.headerSpace
  · simp [hshort, hlong]
  cases readBytes tol p P 2 [0, 1, 2, 3] zeroFrame
  · simp [hshort, hlong]
  cases footerMatches tol p P <;> cases pairAt tol P 72 p.bitMark p.messageSpace <;> simp [hshort, hlong, hmin, hmax]

theorem decodePulses_eq_error {e : DecodeError} : decodePulses tol p P = .error e ↔
    (P.length < 130 ∧ e = .tooShort) ∨ (150 < P.length ∧ e = .tooLong) ∨
      130 ≤ P.length ∧ P.length ≤ 150 ∧ failsAfterLength tol p P e := by
  unfold decodePulses Config.pulseMin Config.pulseMax failsAfterLength
  rw [← footerMatches_eq_true]
  by_cases hshort : P.length < 130
  · simp [hshort, eq_comm (a := e), show P.length ≤ 150 by omega, show ¬150 < P.length by omega]
  have hmin : 130 ≤ P.length := not_lt.1 hshort
  by_cases hlong : 150 < P.length
  · simp [hshort, hlong, eq_comm (a := e)]
  have hmax : P.length ≤ 150 := not_lt.1 hlong
  cases pairAt tol P 0 p.headerMark p.headerSpace
  · simp [hshort, hlong, hmin, hmax, eq_comm (a := e)]
  cases readBytes tol p P 2 [0, 1, 2, 3] zeroFrame
  · simp [hshort, hlong, hmin, hmax]
  cases footerMatches tol p P <;> cases pairAt tol P 72 p.bitMark p.messageSpace <;>
    simp [hshort, hlong, hmin, hmax, eq_comm (a := e)]

/-! ### The length (R183) -/

theorem failsAfterLength_ne_length_error {e : DecodeError} (h : failsAfterLength tol p P e) : e ≠ .tooShort ∧ e ≠ .tooLong := by
  rcases h with ⟨-, rfl⟩ | ⟨-, hfirst | ⟨G, -, ⟨-, rfl⟩ | ⟨-, ⟨-, rfl⟩ | ⟨-, hlast⟩⟩⟩⟩
  case inl | inr.inr.inl | inr.inr.inr.inl => exact ⟨nofun, nofun⟩
  case inr.inl =>
    obtain ⟨b, -, k, rfl, -⟩ := readBytes_eq_error cellRun_first hfirst
    exact ⟨nofun, nofun⟩
  case inr.inr.inr.inr =>
    obtain ⟨b, -, k, rfl, -⟩ := readBytes_eq_error cellRun_last hlast
    exact ⟨nofun, nofun⟩

theorem decodePulses_eq_tooShort : decodePulses tol p P = .error .tooShort ↔ P.length < 130 := by
  refine ⟨fun h => ?_, fun h => decodePulses_eq_error.2 (.inl ⟨h, rfl⟩)⟩
  rcases decodePulses_eq_error.1 h with ⟨hlen, -⟩ | ⟨-, he⟩ | ⟨-, -, hlater⟩
  · exact hlen
  · cases he
  · exact absurd rfl (failsAfterLength_ne_length_error hlater).1

theorem decodePulses_eq_tooLong : decodePulses tol p P = .error .tooLong ↔ 150 < P.length := by
  refine ⟨fun h => ?_, fun h => decodePulses_eq_error.2 (.inr (.inl ⟨h, rfl⟩))⟩
  rcases decodePulses_eq_error.1 h with ⟨-, he⟩ | ⟨hlen, -⟩ | ⟨-, -, hlater⟩
  · cases he
  · exact hlen
  · exact absurd rfl (failsAfterLength_ne_length_error hlater).2

end

/-! ### The command's end (R190, R192) -/

theorem errorStatus_no_warning_toNat (e : DecodeError) : (errorStatus e false).toNat = errorWord e :=
  errorStatus_toNat e false

/-- `DECP` reports exactly the decoder's error, and its word in `STATUS`. -/
theorem exec_decp_reports {s : State} (hp : ¬zeroDuration s.inp.profileIn) :
    ∃ t, exec .decp s = .next t ∧ t.cfg = s.cfg ∧ t.climate = s.climate ∧ inputsKept s t ∧
      (∀ e, t.out.result = .err e ↔ decodePulses Config.tolPct s.inp.profileIn s.inp.pulseIn = .error e) ∧
      ∀ e, decodePulses Config.tolPct s.inp.profileIn s.inp.pulseIn = .error e → t.status.toNat = errorWord e := by
  have hlegal := (profileLegal_iff_not_zeroDuration _).2 hp
  cases h : decodePulses Config.tolPct s.inp.profileIn s.inp.pulseIn with
  | ok F =>
    refine ⟨_, execDecp_next.2 ⟨hlegal, .inr ⟨F, h, rfl⟩⟩, complete_cfg .., complete_climate .., ⟨complete_inp .., complete_host ..⟩,
      fun e => iff_of_false nofun nofun, nofun⟩
  | error e₀ =>
    refine ⟨_, execDecp_next.2 ⟨hlegal, .inl ⟨e₀, h, rfl⟩⟩, endWithError_cfg .., endWithError_climate ..,
      ⟨endWithError_inp .., endWithError_host ..⟩, fun e => ?result, fun e he => ?status⟩
    case result => rw [endWithError_result, Result.err.injEq, Except.error.injEq]
    case status =>
      cases he
      rw [endWithError_status, errorStatus_no_warning_toNat]

/-- Settles O27: the decoder's length errors are those of its first stage alone. -/
theorem decpChecksTheLengthFirst : Obligations.DecpChecksTheLengthFirst := by
  unfold Obligations.DecpChecksTheLengthFirst
  intro s hp
  obtain ⟨t, ht, hcfg, hclimate, hinputs, hresult, hstatus⟩ := exec_decp_reports hp
  exact ⟨t, ht, hcfg, hclimate, hinputs, (hresult _).trans decodePulses_eq_tooShort, (hresult _).trans decodePulses_eq_tooLong,
    fun h => hstatus _ (decodePulses_eq_tooShort.2 h), fun h => hstatus _ (decodePulses_eq_tooLong.2 h)⟩

/-! ### The stages after the length (R184 to R188) -/

theorem readBytes_first_of_cellsBefore {tol : Nat} {p : TimingProfile} {P : PulseSeq} {F : Frame}
    (h : cellsBefore tol p P 0 4 0) : ∃ G, readBytes tol p P 2 [0, 1, 2, 3] F = .ok G := by
  refine readBytes_of_cells cellRun_first fun b hb k => h b k (Nat.zero_le _) k.isLt ?_
  have := ((mem_indexRun cellRun_first.run).1 hb).2
  simp only [List.length_cons, List.length_nil] at this
  omega

/-- Settles O30: each clause is one branch of the stages' order, the two loops reporting their first bad cell. -/
theorem decpReportsTheFirstFailingStage : Obligations.DecpReportsTheFirstFailingStage := by
  unfold Obligations.DecpReportsTheFirstFailingStage
  rintro s p P tol rfl rfl rfl hp hmin hmax
  obtain ⟨t, ht, -, -, -, hresult, -⟩ := exec_decp_reports hp
  have hreport {e : DecodeError} (h : failsAfterLength Config.tolPct s.inp.profileIn s.inp.pulseIn e) : t.out.result = .err e :=
    (hresult e).2 (decodePulses_eq_error.2 (.inr (.inr ⟨hmin, hmax, h⟩)))
  refine ⟨t, ht, fun hheader => hreport (.inl ⟨hheader, rfl⟩), fun hheader => ⟨fun b k hb hbefore hbad => ?first, fun hcells => ?later⟩⟩
  case first =>
    have hmem : b ∈ ([0, 1, 2, 3] : List (Fin 8)) := (mem_indexRun cellRun_first.run).2 ⟨Nat.zero_le _, Nat.lt_succ_of_le hb⟩
    exact hreport (.inr ⟨hheader, .inl (readBytes_of_first_bad_cell cellRun_first hmem hbefore hbad)⟩)
  case later =>
    obtain ⟨G, hfirst⟩ := readBytes_first_of_cellsBefore (F := zeroFrame) hcells
    refine ⟨fun hfooter => hreport (.inr ⟨hheader, .inr ⟨G, hfirst, .inl ⟨hfooter, rfl⟩⟩⟩),
      fun hfooter => ⟨fun hspace => hreport (.inr ⟨hheader, .inr ⟨G, hfirst, .inr ⟨hfooter, .inl ⟨hspace, rfl⟩⟩⟩⟩),
        fun hspace b k hb hbefore hbad => ?last⟩⟩
    case last =>
      have hmem : b ∈ ([4, 5, 6, 7] : List (Fin 8)) := (mem_indexRun cellRun_last.run).2 ⟨hb, b.isLt⟩
      exact hreport (.inr ⟨hheader, .inr ⟨G, hfirst, .inr ⟨hfooter, .inr ⟨hspace,
        readBytes_of_first_bad_cell cellRun_last hmem hbefore hbad⟩⟩⟩⟩)

/-! ### The entries that are examined (R189) -/

section
variable {tol : Nat} {p : TimingProfile} {P : PulseSeq} {n : Nat}

theorem pairAt_take {i : Nat} (h : i + 2 ≤ n) (m s : Dur) : pairAt tol (P.take n) i m s = pairAt tol P i m s := by
  rw [pairAt, pairAt, List.getElem?_take_of_lt (by omega), List.getElem?_take_of_lt (by omega)]

theorem readCell_take {i : Nat} (h : i + 2 ≤ n) : readCell tol p (P.take n) i = readCell tol p P i := by
  simp only [readCell, pairAt_take h]

theorem readBits_take {i : Nat} {ks : List (Fin 8)} (h : i + 2 * ks.length ≤ n) (acc : Byte) :
    readBits tol p (P.take n) i ks acc = readBits tol p P i ks acc := by
  induction ks generalizing i acc with
  | nil => rfl
  | cons k ks ih =>
    rw [List.length_cons] at h
    simp only [readBits, readCell_take (show i + 2 ≤ n by omega), ih (show i + 2 + 2 * ks.length ≤ n by omega)]

theorem readBytes_take {i : Nat} {bs : List (Fin 8)} (h : i + 16 * bs.length ≤ n) (F : Frame) :
    readBytes tol p (P.take n) i bs F = readBytes tol p P i bs F := by
  induction bs generalizing i F with
  | nil => rfl
  | cons b bs ih =>
    rw [List.length_cons] at h
    simp only [readBytes, readBits_take (ks := [0, 1, 2, 3, 4, 5, 6, 7]) (show i + 16 ≤ n by omega),
      ih (show i + 16 + 16 * bs.length ≤ n by omega)]

theorem footerMatches_take (h : 72 ≤ n) : footerMatches tol p (P.take n) = footerMatches tol p P := by
  rw [footerMatches, footerMatches, readBits_take h]

/-- Of a sequence whose length passes, the first 138 entries decide. -/
theorem decodePulses_take (hmin : 138 ≤ P.length) (hmax : P.length ≤ 150) :
    decodePulses tol p (P.take 138) = decodePulses tol p P := by
  have hlen : (P.take 138).length = 138 := List.length_take_of_le hmin
  have hshort : ¬P.length < 130 := by omega
  have hlong : ¬150 < P.length := by omega
  simp only [decodePulses, Config.pulseMin, Config.pulseMax, hlen, hshort, hlong, gt_iff_lt, Nat.reduceLT, if_false,
    pairAt_take (n := 138) (i := 0) (by decide), pairAt_take (n := 138) (i := 72) (by decide), footerMatches_take (n := 138) (by decide),
    readBytes_take (n := 138) (i := 2) (bs := [0, 1, 2, 3]) (by decide),
    readBytes_take (n := 138) (i := 74) (bs := [4, 5, 6, 7]) (by decide)]

end

/-- Settles O32: both sequences decode as their common first 138 entries do, and `DECP` uses nothing else of them. -/
theorem entriesFrom138OnAreNotExamined : Obligations.EntriesFrom138OnAreNotExamined := by
  unfold Obligations.EntriesFrom138OnAreNotExamined
  intro s P Q hP hP' hQ hQ' htake t ht
  have hsame : decodePulses Config.tolPct s.inp.profileIn P = decodePulses Config.tolPct s.inp.profileIn Q := by
    rw [← decodePulses_take hP hP', htake, decodePulses_take hQ hQ']
  obtain ⟨hlegal, ⟨e, he, rfl⟩ | ⟨F, hF, rfl⟩⟩ := execDecp_next.1 ht
  · exact ⟨_, execDecp_next.2 ⟨hlegal, .inl ⟨e, hsame.symm.trans he, rfl⟩⟩, rfl, rfl, rfl, rfl⟩
  · exact ⟨_, execDecp_next.2 ⟨hlegal, .inr ⟨F, hsame.symm.trans hF, rfl⟩⟩, rfl, rfl, rfl, rfl⟩

end Sys2Proof.Machine
end

section
/-! PROOFS. `RX` (44_pulse_decoder.md R195 to R197): what it commits, and what an error leaves. -/

namespace Sys2Proof.Machine

/-! ### A sequence that decodes (R183 to R188) -/

section
variable {tol : Nat} {p : TimingProfile} {P : PulseSeq} {F : Frame}

theorem decodesTo_carries (h : decodesTo tol p P F) (b k : Fin 8) : carries tol p P (cellIndex b k) (F[b].getLsbD k) := by
  obtain ⟨-, -, -, -, -, hcells⟩ := h
  rw [← frameBit_eq_getLsbD]
  exact hcells b k b.isLt k.isLt

/-- The first loop reads some bytes 0 to 3; their cells carry the bits of `F`, so the second loop ends in `F`. -/
theorem decodePulses_of_decodesTo (h : decodesTo tol p P F) : decodePulses tol p P = .ok F := by
  have hcarry := decodesTo_carries h
  obtain ⟨hmin, hmax, hheader, hfooter, hspace, -⟩ := h
  obtain ⟨G, hfirst⟩ := readBytes_of_cells (F := zeroFrame) cellRun_first fun b _ k => isCell_iff_carries.2 ⟨_, hcarry b k⟩
  refine decodePulses_eq_ok.2 ⟨hmin, hmax, hheader, G, hfirst, hfooter, hspace,
    (readBytes_eq_ok cellRun_last).2 ⟨fun b hb => ?_, fun b _ => hcarry b⟩⟩
  have hb' : b ∈ ([0, 1, 2, 3] : List (Fin 8)) := by revert b; decide
  exact BitVec.eq_of_getLsbD_eq fun k hk =>
    ((carries_iff_eq (((readBytes_eq_ok cellRun_first).1 hfirst).2 b hb' ⟨k, hk⟩)).1 (hcarry b ⟨k, hk⟩))

end

/-! ### Success (R196) -/

theorem exec_rx_commits {s : State} {m : Model} {strict : Bool} {F : Frame} {r : ClimateRecord} (hm : s.cfg.model = some m)
    (hs : s.cfg.strict = some strict) (hF : decodesTo Config.tolPct (profileOf m) s.inp.pulseIn F) (hgo : goesOn F strict)
    (hr : unpackFrame F strict s.climate = .ok r) :
    ∃ t, exec .rx s = .next t ∧ t.cfg = s.cfg ∧ inputsKept s t ∧ t.status.toNat = warnWord F ∧ t.out.frameOut = F ∧
      t.out.result = .okRecord t.climate ∧ t.out.cmdOut = t.climate ∧ t.climate = r := by
  refine ⟨_, execRx_next.2 ⟨m, strict, hm, hs, .inr ⟨F, decodePulses_of_decodesTo hF, .inr ⟨r, hr, rfl⟩⟩⟩, endWithRecord_cfg ..,
    ⟨endWithRecord_inp .., endWithRecord_host ..⟩, ?status, endWithRecord_frameOut .., ?result, ?cmdOut, endWithRecord_climate ..⟩
  case status => rw [endWithRecord_status, okStatus_toNat, frameWarn_toNat_of_goesOn hgo]
  case result => rw [endWithRecord_result, endWithRecord_climate]
  case cmdOut => rw [endWithRecord_cmdOut, endWithRecord_climate]

/-- Settles O37: the power bit tells which record the codec accepts, and that record is committed. -/
theorem rxCommitsTheDecodedState : Obligations.RxCommitsTheDecodedState := by
  unfold Obligations.RxCommitsTheDecodedState
  intro s m strict F hm hs hF hgo haccepted
  by_cases hoff : bitsOf F[0] 3 1 = 0
  · have hr : unpackFrame F strict s.climate = .ok (powerOffRecord s.climate) :=
      unpackFrame_of_power_off hgo ((frameGet_eq_iff F .power _).2 hoff)
    obtain ⟨t, ht, hcfg, hinputs, hstatus, hframe, hresult, hcmdOut, hclimate⟩ := exec_rx_commits hm hs hF hgo hr
    exact ⟨t, ht, hcfg, hinputs, hstatus, hframe, hresult, hcmdOut, fun _ => hclimate, fun hon => by omega⟩
  · obtain ⟨q, hq⟩ := haccepted.resolve_left hoff
    have hmode : modeOfCode (frameGet F .mode) = some q := by
      rw [modeOfCode_eq_modeTable, frameGet_toNat]
      exact hq
    have hr : unpackFrame F strict s.climate = .ok (powerOnRecord F q) :=
      unpackFrame_of_mode hgo (mt (frameGet_eq_iff F .power _).1 hoff) hmode
    obtain ⟨t, ht, hcfg, hinputs, hstatus, hframe, hresult, hcmdOut, hclimate⟩ := exec_rx_commits hm hs hF hgo hr
    refine ⟨t, ht, hcfg, hinputs, hstatus, hframe, hresult, hcmdOut, fun h => absurd h hoff, fun _ q' hq' => ?_⟩
    cases hq.symm.trans hq'
    rw [hclimate, powerOnRecord_eq_decodedRecord]

/-! ### Errors (R197) -/

/-- A codec error's word, with the warning for `UnknownMode` only: a strict decode does not warn. -/
theorem errorStatus_of_unpackFrame_error {F : Frame} {strict : Bool} {prior : ClimateRecord} {e : DecodeError}
    (h : unpackFrame F strict prior = .error e) :
    (errorStatus e (frameWarn F strict)).toNat = errorWord e ∨
      ∃ raw, e = .unknownMode raw ∧ (errorStatus e (frameWarn F strict)).toNat = errorWord e + 2 ^ 4 := by
  cases hwarn : frameWarn F strict with
  | false => exact .inl (errorStatus_no_warning_toNat e)
  | true =>
    cases strict with
    | true => simp [frameWarn, csumWarn] at hwarn
    | false =>
      obtain ⟨raw, hraw⟩ := unknownMode_of_lenient_error h
      exact .inr ⟨raw, hraw, errorStatus_toNat e true⟩

/-- Settles O38: `RX` ends in a decoder's error, a codec's error or a record; the first two leave `STATE`, and the third is no error. -/
theorem rxFailureLeavesStateUntouched : Obligations.RxFailureLeavesStateUntouched := by
  unfold Obligations.RxFailureLeavesStateUntouched
  intro s t ht
  obtain ⟨m, strict, -, -, ⟨e, -, rfl⟩ | ⟨F, -, ⟨e, he, rfl⟩ | ⟨r, -, rfl⟩⟩⟩ := execRx_next.1 ht
  · refine ⟨endWithError_cfg .., ⟨endWithError_inp .., endWithError_host ..⟩, fun e' he' => ⟨endWithError_climate .., .inl ?_⟩⟩
    cases he'
    rw [endWithError_status, errorStatus_no_warning_toNat]
  · refine ⟨endWithError_cfg .., ⟨endWithError_inp .., endWithError_host ..⟩, fun e' he' => ⟨endWithError_climate .., ?_⟩⟩
    cases he'
    exact errorStatus_of_unpackFrame_error he
  · exact ⟨endWithRecord_cfg .., ⟨endWithRecord_inp .., endWithRecord_host ..⟩, nofun⟩

end Sys2Proof.Machine
end

section
/-! PROOFS. `CFG` (45_control.md R210): the words of the four commands, the reserved selectors, and for each field the values that
are refused and the write. -/

namespace Sys2Proof.Machine

/-! ### The words -/

theorem encode_cfg_toNat (v : Byte) :
    (encode (.cfgModel v)).toNat = 0x9000 + v.toNat ∧ (encode (.cfgStrict v)).toNat = 0x9100 + v.toNat ∧
      (encode (.cfgWifi v)).toNat = 0x9200 + v.toNat ∧ (encode (.cfgRepeat v)).toNat = 0x9300 + v.toNat :=
  ⟨commandWord_toNat 9#4 0#4 v, commandWord_toNat 9#4 1#4 v, commandWord_toNat 9#4 2#4 v, commandWord_toNat 9#4 3#4 v⟩

theorem decode_cfg_word (sel : BitVec 4) (v : Byte) : decode (commandWord 9#4 sel v) = decodeCfg sel v := by
  simp [decode]

theorem decodeCfg_of_reserved {sel : BitVec 4} (h : 4 ≤ sel.toNat) (v : Byte) : decodeCfg sel v = .error .illegalCommand := by
  obtain ⟨n, hn⟩ := Nat.exists_eq_add_of_le' h
  rw [decodeCfg, hn]
  rfl

/-! ### A silent completion -/

/-- A command that names no port ends with the registers its meaning has written, and moves no other. -/
theorem registersKept_completeSilent (s : State) : registersKept s (completeSilent s) :=
  ⟨completeSilent_cfg s, completeSilent_climate s, completeSilent_status s⟩

theorem inputsKept_completeSilent (s : State) : inputsKept s (completeSilent s) :=
  ⟨completeSilent_inp s, completeSilent_host s⟩

/-! ### The four fields -/

section
variable {v : Byte} (s : State)

theorem exec_cfgModel_of_reserved (h : 4 < v.toNat) : exec (.cfgModel v) s = .refused .modelReserved := by
  change execCfgModel v s = _
  rw [execCfgModel, modelOf_eq_none.2 h]

section
variable {m : Model} (hm : modelOf v.toNat = some m)
include hm

theorem exec_cfgModel_again (h : s.cfg.model ≠ none) : exec (.cfgModel v) s = .refused .modelRewrite := by
  obtain ⟨old, hold⟩ := Option.ne_none_iff_exists'.1 h
  change execCfgModel v s = _
  simp only [execCfgModel, hm, hold]

theorem exec_cfgModel_writes (h : s.cfg.model = none) :
    exec (.cfgModel v) s = .next (completeSilent { s with cfg := { s.cfg with model := some m } }) :=
  execCfgModel_next.2 ⟨m, hm, h, rfl⟩

end

/-- The models are numbered without a gap up to code 4. -/
theorem exists_modelOf_of_le_four {n : Nat} (h : n ≤ 4) : ∃ m, modelOf n = some m :=
  Option.ne_none_iff_exists'.1 fun hnone => absurd (modelOf_eq_none.1 hnone) (by omega)

theorem exec_cfgStrict_of_no_flag (h : 1 < v.toNat) : exec (.cfgStrict v) s = .refused .illegalCommand :=
  if_pos h

theorem exec_cfgWifi_of_no_flag (h : 1 < v.toNat) : exec (.cfgWifi v) s = .refused .illegalCommand :=
  if_pos h

section
variable {b : Bool} (h : v.toNat = b.toNat)
include h

theorem le_one_of_flag : v.toNat ≤ 1 := h ▸ Bool.toNat_le b

/-- The test against 1 reads back the flag that a value 0 or 1 stands for. -/
theorem decide_eq_one_of_flag : decide (v = 1#8) = b := by
  simp only [← BitVec.toNat_inj, h]
  cases b <;> rfl

theorem exec_cfgStrict_writes :
    exec (.cfgStrict v) s = .next (completeSilent { s with cfg := { s.cfg with strict := some b } }) :=
  execCfgStrict_next.2 ⟨le_one_of_flag h, by rw [decide_eq_one_of_flag h]⟩

theorem exec_cfgWifi_writes :
    exec (.cfgWifi v) s = .next (completeSilent { s with cfg := { s.cfg with wifi := some b } }) :=
  execCfgWifi_next.2 ⟨le_one_of_flag h, by rw [decide_eq_one_of_flag h]⟩

end

theorem exec_cfgRepeat_of_zero (h : v.toNat = 0) : exec (.cfgRepeat v) s = .refused .repeatZero :=
  if_pos (BitVec.eq_of_toNat_eq h)

theorem exec_cfgRepeat_writes (h : v.toNat ≠ 0) :
    exec (.cfgRepeat v) s = .next (completeSilent { s with cfg := { s.cfg with repeats := some v } }) :=
  execCfgRepeat_next.2 ⟨fun h0 => h (congrArg BitVec.toNat h0), rfl⟩

end

/-- Settles O41: the words are sums of their fields; each field has its refusal lemma and its write, and a write ends in a silent
completion, which moves nothing else. -/
theorem cfgWritesOneFieldOrIsRefused : Obligations.CfgWritesOneFieldOrIsRefused := by
  unfold Obligations.CfgWritesOneFieldOrIsRefused
  intro s v
  obtain ⟨hmodel, hstrict, hwifi, hrepeat⟩ := encode_cfg_toNat v
  refine ⟨hmodel, hstrict, hwifi, hrepeat, ?reserved, exec_cfgModel_of_reserved s, ?again, ?model, ?noFlag, ?flag,
    exec_cfgRepeat_of_zero s, ?repeats⟩
  case reserved =>
    intro sel hsel
    rw [decode_cfg_word, decodeCfg_of_reserved hsel]
  case again =>
    intro hv hwritten
    obtain ⟨m, hm⟩ := exists_modelOf_of_le_four hv
    exact exec_cfgModel_again s hm hwritten
  case model =>
    intro hv hunwritten
    obtain ⟨m, hm⟩ := exists_modelOf_of_le_four hv
    exact ⟨_, m, exec_cfgModel_writes s hm hunwritten, (modelOf_eq_some.1 hm).symm, registersKept_completeSilent _,
      inputsKept_completeSilent _⟩
  case noFlag => exact fun hv => ⟨exec_cfgStrict_of_no_flag s hv, exec_cfgWifi_of_no_flag s hv⟩
  case flag =>
    intro b hb
    exact ⟨⟨_, exec_cfgStrict_writes s hb, registersKept_completeSilent _, inputsKept_completeSilent _⟩,
      ⟨_, exec_cfgWifi_writes s hb, registersKept_completeSilent _, inputsKept_completeSilent _⟩⟩
  case repeats =>
    exact fun hv => ⟨_, exec_cfgRepeat_writes s hv, registersKept_completeSilent _, inputsKept_completeSilent _⟩

end Sys2Proof.Machine
end

section
/-! PROOFS. `SETST` (45_control.md R213): the model's check of a record is the spec's list of what is ill-formed, and the record is
written as it stands. -/

namespace Sys2Proof.Machine

/-- 31 is the largest temperature that five bits hold, so the check's upper bound refuses nothing. -/
theorem setstLegal_iff_not_setstIllFormed (c : ClimateCommand) : setstLegal c = true ↔ ¬setstIllFormed c := by
  have htemp : 16 ≤ c.temp.toNat ∧ c.temp.toNat ≤ 31 ↔ ¬c.temp.toNat < 16 := by
    have := c.temp.isLt
    omega
  simp only [setstLegal, setstIllFormed, htemp, Bool.and_eq_true, decide_eq_true_eq, not_or, not_not, and_assoc, ne_eq]

theorem exec_setst_of_bad_word {s : State} (h : badRecordWord s.inp.cmdIn) : exec .setst s = .refused .badCommandWord := by
  change execSetst s = _
  rw [execSetst, unpackCommand_eq_none.2 h]

section
variable {s : State} {c : ClimateCommand} (hc : unpackCommand s.inp.cmdIn = some c)
include hc

theorem exec_setst_of_illFormed (h : setstIllFormed c) : exec .setst s = .refused .stateIllFormed := by
  have hlegal : setstLegal c = false :=
    Bool.eq_false_iff.2 fun htrue => (setstLegal_iff_not_setstIllFormed c).1 htrue h
  change execSetst s = _
  simp only [execSetst, hc, hlegal, if_true]

theorem exec_setst_writes (h : ¬setstIllFormed c) : exec .setst s = .next (completeSilent { s with climate := recordOf c }) :=
  execSetst_next.2 ⟨c, hc, (setstLegal_iff_not_setstIllFormed c).2 h, rfl⟩

end

/-- A record that `SETST` accepts names its fan speed. -/
theorem exists_speed_of_not_setstIllFormed {c : ClimateCommand} (h : ¬setstIllFormed c) : ∃ f, c.fan = .speed f := by
  cases hfan : c.fan with
  | speed f => exact ⟨f, rfl⟩
  | absent => exact absurd (.inl hfan) h

/-- With a speed given, no field of the record is filled in: ABSENT is the only fan it would have to read as another. -/
theorem recordOf_of_speed {c : ClimateCommand} {f : Fan} (h : c.fan = .speed f) :
    recordOf c = ⟨some c.power, some c.mode, some c.temp, some f, some c.swing, some c.preset⟩ := by
  rw [recordOf, h, fanOfArg]

/-- Settles O43: a bad word and an ill-formed record have their refusals; every other record names its speed, so what is written is
the record itself. -/
theorem setstWritesTheStateOrIsRefused : Obligations.SetstWritesTheStateOrIsRefused := by
  unfold Obligations.SetstWritesTheStateOrIsRefused
  refine ⟨commandWord_toNat 10#4 0#4 0#8, fun s => ⟨exec_setst_of_bad_word, fun c hc => ⟨exec_setst_of_illFormed hc, ?writes⟩⟩⟩
  case writes =>
    intro h
    obtain ⟨f, hf⟩ := exists_speed_of_not_setstIllFormed h
    refine ⟨_, f, exec_setst_writes hc h, hf, ?_, inputsKept_completeSilent _⟩
    rw [recordOf_of_speed hf]
    exact registersKept_completeSilent _

end Sys2Proof.Machine
end

section
/-! PROOFS. The packed command record in numbers (30_encoding.md R84), and `GETST` (45_control.md R212), which shows it. -/

namespace Sys2Proof.Machine

/-! ### The packed record -/

/-- The fields do not overlap and end at bit 14, so nothing of the sum is lost. -/
theorem packFields_toNat (preset : BitVec 1) (swing : BitVec 2) (fan : BitVec 3) (temp : Temp) (mode : BitVec 3) (power : BitVec 1) :
    (packFields preset swing fan temp mode power).toNat =
      power.toNat + 2 * mode.toNat + 16 * temp.toNat + 512 * fan.toNat + 4096 * swing.toNat + 16384 * preset.toNat := by
  rw [packFields, BitVec.toNat_ofNat]
  omega

/-- The columns of R84's table give each value the code that the model's field gives it. -/
theorem packCommand_toNat (c : ClimateCommand) : (packCommand c).toNat = recordCode c := by
  obtain ⟨power, mode, temp, fan, swing, preset⟩ := c
  have hpower : (powerBits power).toNat = match power with | .off => 0 | .on => 1 := by
    cases power <;> rfl
  have hmode : (modeBits mode).toNat =
      match mode with | .cool => 0 | .heat => 1 | .auto => 2 | .dry => 3 | .fanOnly => 4 | .off => 5 := by
    cases mode <;> rfl
  have hfan : (fanArgBits fan).toNat = match fan with
      | .speed .auto => 0 | .speed .low => 1 | .speed .medium => 2 | .speed .high => 3 | .absent => 4 := by
    rcases fan with ⟨⟨⟩⟩ | _ <;> rfl
  have hswing : (swingBits swing).toNat =
      match swing with | .off => 0 | .vertical => 1 | .horizontal => 2 | .both => 3 := by
    cases swing <;> rfl
  have hpreset : (presetBits preset).toNat = match preset with | .none => 0 | .sleep => 1 := by
    cases preset <;> rfl
  rw [packCommand, packFields_toNat, hpower, hmode, hfan, hswing, hpreset]
  rfl

/-- A command that names its speed and the record of its values have one packed form. -/
theorem packRecord_recordOf {c : ClimateCommand} {f : Fan} (h : c.fan = .speed f) : packRecord (recordOf c) = some (packCommand c) := by
  rw [recordOf_of_speed h, packRecord, packCommand, h, fanArgBits]

/-! ### `GETST` -/

theorem recordWritten_iff_not_hasUnwritten (r : ClimateRecord) : recordWritten r = true ↔ ¬hasUnwritten r := by
  simp only [recordWritten, hasUnwritten, Bool.and_eq_true, not_or, ← Option.isSome_iff_ne_none, and_assoc, ← ne_eq]

theorem not_hasUnwritten_recordOf (c : ClimateCommand) : ¬hasUnwritten (recordOf c) := by
  simp [hasUnwritten, recordOf]

theorem exec_getst_of_unwritten {s : State} (h : hasUnwritten s.climate) : exec .getst s = .refused .stateUnwritten :=
  if_pos (Bool.eq_false_iff.2 fun htrue => (recordWritten_iff_not_hasUnwritten _).1 htrue h)

theorem exec_getst_of_written {s : State} (h : ¬hasUnwritten s.climate) :
    exec .getst s = .next (complete s fun o => { o with cmdOut := s.climate }) :=
  execGetst_next.2 ⟨(recordWritten_iff_not_hasUnwritten _).2 h, rfl⟩

/-- Settles O44: the record of a command has every field, so `GETST` shows it; with its speed named it has the command's packed form,
and the lines of the port are that form's bits, none of them free. -/
theorem getstReadsTheWholeState : Obligations.GetstReadsTheWholeState := by
  unfold Obligations.GetstReadsTheWholeState
  refine ⟨commandWord_toNat 11#4 0#4 0#8, fun s => ⟨exec_getst_of_unwritten, fun c f hf hs => ?shows⟩⟩
  case shows =>
    have hwritten : ¬hasUnwritten s.climate := hs ▸ not_hasUnwritten_recordOf c
    have hpacked : packRecord s.climate = some (packCommand c) := hs ▸ packRecord_recordOf hf
    refine ⟨_, exec_getst_of_written hwritten, ⟨complete_cfg .., complete_climate .., complete_status ..⟩,
      ⟨complete_inp .., complete_host ..⟩, rfl, ?lines, packCommand c, hpacked, packCommand_toNat c⟩
    case lines => rw [cmdOutLines, complete_out, recordLines_of_packRecord _ hpacked, packCommand_toNat]

end Sys2Proof.Machine
end

section
/-! PROOFS. `STATUS` (60_exceptions.md R231 to R236): `ERR` tells an error from a success, the decode commands do not look at the word
they overwrite, and no other command writes it. -/

namespace Sys2Proof.Machine

/-! ### `ERR` against `RESULT` (R231) -/

/-- `RESULT` holds an error exactly when `STATUS.ERR` is not 0. -/
def errMatchesResult (t : State) : Prop := (∃ e, t.out.result = .err e) ↔ t.status.toNat % 16 ≠ 0

/-- Every code of R231 is at least 1, and the values recorded beside it lie above bit 3. -/
theorem errorWord_mod_ne_zero (e : DecodeError) : errorWord e % 16 ≠ 0 := by
  cases e <;> simp only [errorWord] <;> omega

theorem errorStatus_err_ne_zero (e : DecodeError) (warn : Bool) : (errorStatus e warn).toNat % 16 ≠ 0 := by
  have hword := errorWord_mod_ne_zero e
  rw [errorStatus_toNat]
  omega

theorem okStatus_err_eq_zero (warn : Bool) : (okStatus warn).toNat % 16 = 0 := by
  rw [okStatus_toNat]
  omega

theorem errMatchesResult_of_ok {t : State} {warn : Bool} (hresult : ∀ e, t.out.result ≠ .err e) (hstatus : t.status = okStatus warn) :
    errMatchesResult t :=
  iff_of_false (fun ⟨e, he⟩ => hresult e he) (not_not.2 (hstatus ▸ okStatus_err_eq_zero warn))

theorem errMatchesResult_endWithError (e : DecodeError) (warn : Bool) (named : OutPorts → OutPorts) (s : State) :
    errMatchesResult (endWithError e warn named s) :=
  iff_of_true ⟨e, endWithError_result ..⟩ (errorStatus_err_ne_zero e warn)

theorem errMatchesResult_endWithRecord (r : ClimateRecord) (warn : Bool) (named : OutPorts → OutPorts) (s : State) :
    errMatchesResult (endWithRecord r warn named s) :=
  errMatchesResult_of_ok (fun _ => by simp) (endWithRecord_status ..)

/-! ### The decode commands -/

section
variable {s t : State}

theorem exec_unpack_errMatchesResult (h : exec .unpack s = .next t) : errMatchesResult t := by
  obtain ⟨strict, -, ⟨e, -, rfl⟩ | ⟨r, -, rfl⟩⟩ := execUnpack_next.1 h
  · exact errMatchesResult_endWithError ..
  · exact errMatchesResult_endWithRecord ..

theorem exec_decp_errMatchesResult (h : exec .decp s = .next t) : errMatchesResult t := by
  obtain ⟨-, ⟨e, -, rfl⟩ | ⟨F, -, rfl⟩⟩ := execDecp_next.1 h
  · exact errMatchesResult_endWithError ..
  · exact errMatchesResult_of_ok (fun _ => by simp) (complete_status ..)

theorem exec_rx_errMatchesResult (h : exec .rx s = .next t) : errMatchesResult t := by
  obtain ⟨m, strict, -, -, ⟨e, -, rfl⟩ | ⟨F, -, ⟨e, -, rfl⟩ | ⟨r, -, rfl⟩⟩⟩ := execRx_next.1 h
  · exact errMatchesResult_endWithError ..
  · exact errMatchesResult_endWithError ..
  · exact errMatchesResult_endWithRecord ..

/-- No stage of the decode commands reads `STATUS`, and each of their ends writes all of it: the old word leaves no trace in the
outcome, be it a next state or a refusal. -/
theorem exec_decoding_forgets_status {i : Instr} (hi : i = .unpack ∨ i = .decp ∨ i = .rx) (s : State) (w : StatusWord) :
    exec i { s with status := w } = exec i s := by
  rcases hi with rfl | rfl | rfl <;> rfl

/-! ### The other commands -/

/-- Every command outside the decode family ends in a completion of the state it found, at most one register of `CFG` or `STATE`
written, so `STATUS` is still the word it was. -/
theorem exec_keeps_status_of_not_decoding {i : Instr} (hunpack : i ≠ .unpack) (hdecp : i ≠ .decp) (hrx : i ≠ .rx)
    (h : exec i s = .next t) : t.status = s.status := by
  cases i with
  | unpack => exact absurd rfl hunpack
  | decp => exact absurd rfl hdecp
  | rx => exact absurd rfl hrx
  | csum =>
    obtain rfl := execCsum_next.1 h
    exact complete_status ..
  | pack =>
    obtain ⟨F, -, rfl⟩ := execPack_next.1 h
    exact complete_status ..
  | resolve model =>
    obtain ⟨m, -, rfl⟩ := execResolve_next.1 h
    exact complete_status ..
  | encp count =>
    obtain ⟨-, -, rfl⟩ := execEncp_next.1 h
    exact complete_status ..
  | tx =>
    obtain ⟨m, w, n, F, -, -, -, -, rfl⟩ := execTx_next.1 h
    exact complete_status ..
  | cfgModel value =>
    obtain ⟨m, -, -, rfl⟩ := execCfgModel_next.1 h
    exact completeSilent_status ..
  | cfgStrict value =>
    obtain ⟨-, rfl⟩ := execCfgStrict_next.1 h
    exact completeSilent_status ..
  | cfgWifi value =>
    obtain ⟨-, rfl⟩ := execCfgWifi_next.1 h
    exact completeSilent_status ..
  | cfgRepeat value =>
    obtain ⟨-, rfl⟩ := execCfgRepeat_next.1 h
    exact completeSilent_status ..
  | setst =>
    obtain ⟨c, -, -, rfl⟩ := execSetst_next.1 h
    exact completeSilent_status ..
  | getst =>
    obtain ⟨-, rfl⟩ := execGetst_next.1 h
    exact complete_status ..

end

/-- Settles O45: a command outside the decode family keeps `STATUS`; one inside it ends in the same state whatever word it overwrites,
and the word it writes has `ERR` 0 exactly on a success. -/
theorem statusIsWrittenWholeByTheDecodeFamilyOnly : Obligations.StatusIsWrittenWholeByTheDecodeFamilyOnly := by
  unfold Obligations.StatusIsWrittenWholeByTheDecodeFamilyOnly
  intro i s t ht
  refine ⟨fun hunpack hdecp hrx => exec_keeps_status_of_not_decoding hunpack hdecp hrx ht, fun hi w =>
    ⟨t, (exec_decoding_forgets_status hi s w).trans ht, rfl, rfl, ?err⟩⟩
  case err =>
    rcases hi with rfl | rfl | rfl
    · exact exec_unpack_errMatchesResult ht
    · exact exec_decp_errMatchesResult ht
    · exact exec_rx_errMatchesResult ht

end Sys2Proof.Machine
end

section
/-! PROOFS. The command words (30_encoding.md R85 to R89): what each group of rows of the decoder answers, the round trip between words
and commands, the opcode table, and the words that are refused. -/

namespace Sys2Proof

/-! ### The groups of rows (R86, R87, R89) -/

section
variable {sel : BitVec 4} {imm : Byte} {i j : Instr} {e : BadWord}

theorem decodePlain_eq_ok : decodePlain i sel imm = .ok j ↔ sel = 0#4 ∧ imm = 0#8 ∧ i = j := by
  unfold decodePlain
  by_cases h : sel = 0#4 ∧ imm = 0#8
  · simp [h]
  · simp [h, ← and_assoc]

theorem decodePlain_eq_error : decodePlain i sel imm = .error e ↔ .illegalCommand = e ∧ ¬(sel = 0#4 ∧ imm = 0#8) := by
  unfold decodePlain
  by_cases h : sel = 0#4 ∧ imm = 0#8
  · simp [h]
  · simp only [h, if_false, Except.error.injEq, not_false_eq_true, and_true]

/-- The five high bits of the immediate are 0 exactly when three bits hold its value. -/
theorem extractLsb'_high_eq_zero : imm.extractLsb' 3 5 = 0#5 ↔ imm.toNat < 8 := by
  revert imm
  decide +kernel

theorem setWidth_model_of_lt (h : imm.toNat < 8) : (imm.extractLsb' 0 3).setWidth 8 = imm := by
  revert imm
  decide +kernel

theorem decodeResolve_eq_ok : decodeResolve sel imm = .ok j ↔ sel = 0#4 ∧ imm.toNat < 8 ∧ .resolve (imm.extractLsb' 0 3) = j := by
  unfold decodeResolve
  rw [← extractLsb'_high_eq_zero]
  by_cases hsel : sel = 0#4 <;> by_cases himm : imm.extractLsb' 3 5 = 0#5 <;> simp [hsel, himm]

theorem decodeResolve_eq_error : decodeResolve sel imm = .error e ↔
    (.illegalCommand = e ∧ sel ≠ 0#4) ∨ (.modelReserved = e ∧ sel = 0#4 ∧ ¬imm.toNat < 8) := by
  unfold decodeResolve
  rw [← extractLsb'_high_eq_zero]
  by_cases hsel : sel = 0#4 <;> by_cases himm : imm.extractLsb' 3 5 = 0#5 <;> simp [hsel, himm]

theorem decodeEncp_eq_ok : decodeEncp sel imm = .ok j ↔ sel = 0#4 ∧ .encp imm = j := by
  unfold decodeEncp
  by_cases hsel : sel = 0#4 <;> simp [hsel]

theorem decodeEncp_eq_error : decodeEncp sel imm = .error e ↔ .illegalCommand = e ∧ sel ≠ 0#4 := by
  unfold decodeEncp
  by_cases hsel : sel = 0#4 <;> simp [hsel]

theorem decodeCfg_eq_ok : decodeCfg sel imm = .ok j ↔
    (sel = 0#4 ∧ .cfgModel imm = j) ∨ (sel = 1#4 ∧ .cfgStrict imm = j) ∨ (sel = 2#4 ∧ .cfgWifi imm = j) ∨
      (sel = 3#4 ∧ .cfgRepeat imm = j) := by
  simp only [decodeCfg, ← BitVec.toNat_inj]
  split
  case h_5 h0 h1 h2 h3 =>
    refine iff_of_false nofun ?_
    rintro (⟨h, -⟩ | ⟨h, -⟩ | ⟨h, -⟩ | ⟨h, -⟩)
    exacts [h0 h, h1 h, h2 h, h3 h]
  all_goals simp [*]

theorem decodeCfg_eq_error : decodeCfg sel imm = .error e ↔ .illegalCommand = e ∧ 4 ≤ sel.toNat := by
  by_cases h : 4 ≤ sel.toNat
  · simp [Machine.decodeCfg_of_reserved h, h]
  · have hok : ∃ j, decodeCfg sel imm = .ok j := by
      simp only [decodeCfg_eq_ok, ← BitVec.toNat_inj]
      rw [not_le] at h
      interval_cases sel.toNat <;> simp
    obtain ⟨j, hj⟩ := hok
    simp [hj, h]

end

/-! ### The round trip (O4, O5) -/

/-- A model code is the low three bits of the immediate that carries it. -/
theorem extractLsb'_setWidth_model (m : BitVec 3) : (m.setWidth 8).toNat < 8 ∧ (m.setWidth 8).extractLsb' 0 3 = m := by
  revert m
  decide

/-- Settles O4: the fields of an encoded word are those it was put together from, and its row's group answers with the command. -/
theorem decodeOfEncodeIsTheCommand : Obligations.DecodeOfEncodeIsTheCommand := by
  unfold Obligations.DecodeOfEncodeIsTheCommand
  intro i
  cases i with
  | csum | pack | unpack | decp | tx | rx | setst | getst => rfl
  | resolve m =>
    obtain ⟨hlt, hcode⟩ := extractLsb'_setWidth_model m
    have hgroup : decodeResolve 0#4 (m.setWidth 8) = .ok (.resolve m) := decodeResolve_eq_ok.2 ⟨rfl, hlt, congrArg _ hcode⟩
    simp [encode, decode, hgroup]
  | encp n => simp [encode, decode, decodeEncp_eq_ok]
  | cfgModel v | cfgStrict v | cfgWifi v | cfgRepeat v => simp [encode, decode, decodeCfg_eq_ok]

/-- Settles O5: in each group of rows the command that is answered holds the selector and the immediate, so its word has the three
fields of `w`. -/
theorem encodeOfDecodeIsTheWord : Obligations.EncodeOfDecodeIsTheWord := by
  unfold Obligations.EncodeOfDecodeIsTheWord
  intro w i h
  rw [← commandWord_fields w]
  unfold decode at h
  split at h
  case h_1 | h_2 | h_3 | h_6 | h_7 | h_8 | h_10 | h_11 =>
    rename_i hop
    obtain ⟨hsel, himm, rfl⟩ := decodePlain_eq_ok.1 h
    rw [hsel, himm]
    exact congrArg (commandWord · 0#4 0#8) (BitVec.eq_of_toNat_eq hop.symm)
  case h_4 hop =>
    obtain ⟨hsel, himm, rfl⟩ := decodeResolve_eq_ok.1 h
    rw [hsel, encode, setWidth_model_of_lt himm]
    exact congrArg (commandWord · 0#4 _) (BitVec.eq_of_toNat_eq hop.symm)
  case h_5 hop =>
    obtain ⟨hsel, rfl⟩ := decodeEncp_eq_ok.1 h
    rw [hsel]
    exact congrArg (commandWord · 0#4 _) (BitVec.eq_of_toNat_eq hop.symm)
  case h_9 hop =>
    have hcfg : opField w = 9#4 := BitVec.eq_of_toNat_eq hop
    rcases decodeCfg_eq_ok.1 h with ⟨hsel, rfl⟩ | ⟨hsel, rfl⟩ | ⟨hsel, rfl⟩ | ⟨hsel, rfl⟩ <;> rw [hcfg, hsel, encode]
  case h_12 => cases h

/-! ### The opcode table (O6) -/

theorem and_allOnes_shiftLeft_toNat (w : CmdWord) (k : Nat) :
    (w &&& BitVec.allOnes 16 <<< k).toNat = w.toNat / 2 ^ k * 2 ^ k := by
  rw [← BitVec.shiftLeft_ushiftRight, BitVec.toNat_shiftLeft, BitVec.toNat_ushiftRight, Nat.shiftLeft_eq, Nat.shiftRight_eq_div_pow,
    Nat.mod_eq_of_lt ((Nat.div_mul_le_self ..).trans_lt w.isLt)]

section
variable {w : CmdWord}

theorem encode_of_whole_mask (i : Instr) (h : w &&& 0xFFFF#16 = encode i) : encode i = w :=
  h.symm.trans BitVec.and_allOnes

theorem commandWord_of_high_mask (op sel : BitVec 4) (h : w &&& 0xFF00#16 = commandWord op sel 0#8) :
    commandWord op sel (w.setWidth 8) = w := by
  have hhigh := congrArg BitVec.toNat h
  rw [show 0xFF00#16 = BitVec.allOnes 16 <<< 8 by decide, and_allOnes_shiftLeft_toNat, commandWord_toNat] at hhigh
  apply BitVec.eq_of_toNat_eq
  rw [commandWord_toNat, BitVec.toNat_setWidth]
  rw [BitVec.toNat_ofNat, Nat.zero_mod, Nat.add_zero] at hhigh
  rw [← hhigh, Nat.div_add_mod']

theorem commandWord_of_resolve_mask (h : w &&& 0xFFF8#16 = 0x4000#16) :
    commandWord 4#4 0#4 ((w.setWidth 3).setWidth 8) = w := by
  have hhigh := congrArg BitVec.toNat h
  rw [show 0xFFF8#16 = BitVec.allOnes 16 <<< 3 by decide, and_allOnes_shiftLeft_toNat] at hhigh
  apply BitVec.eq_of_toNat_eq
  rw [commandWord_toNat, BitVec.toNat_setWidth, BitVec.toNat_setWidth]
  simp only [BitVec.toNat_ofNat] at hhigh ⊢
  omega

open Machine

/-- A word that matches a row is the word of the command that the row reads from it: what the mask leaves open is the operand. -/
theorem encode_rowCommand : ∀ row ∈ opcodeRows, w &&& row.mask = row.pattern → encode (row.command w) = w := by
  simp only [opcodeRows, List.forall_mem_cons]
  exact ⟨encode_of_whole_mask .csum, encode_of_whole_mask .pack, encode_of_whole_mask .unpack, commandWord_of_resolve_mask,
    commandWord_of_high_mask 5#4 0#4, encode_of_whole_mask .decp, encode_of_whole_mask .tx, encode_of_whole_mask .rx,
    commandWord_of_high_mask 9#4 0#4, commandWord_of_high_mask 9#4 1#4, commandWord_of_high_mask 9#4 2#4,
    commandWord_of_high_mask 9#4 3#4, encode_of_whole_mask .setst, encode_of_whole_mask .getst, nofun⟩

theorem encode_matches_a_row (i : Instr) : ∃ row ∈ opcodeRows, encode i &&& row.mask = row.pattern := by
  have hrow : Laws.EncodeRow.Statement i := by
    cases i with
    | csum => exact Laws.EncodeRow.csum
    | pack => exact Laws.EncodeRow.pack
    | unpack => exact Laws.EncodeRow.unpack
    | resolve m => exact Laws.EncodeRow.resolve m
    | encp n => exact Laws.EncodeRow.encp n
    | decp => exact Laws.EncodeRow.decp
    | tx => exact Laws.EncodeRow.tx
    | rx => exact Laws.EncodeRow.rx
    | cfgModel v => exact Laws.EncodeRow.cfgModel v
    | cfgStrict v => exact Laws.EncodeRow.cfgStrict v
    | cfgWifi v => exact Laws.EncodeRow.cfgWifi v
    | cfgRepeat v => exact Laws.EncodeRow.cfgRepeat v
    | setst => exact Laws.EncodeRow.setst
    | getst => exact Laws.EncodeRow.getst
  obtain ⟨row, hrow, hmatch, -⟩ := hrow
  exact ⟨row, List.mem_of_getElem? hrow, hmatch⟩

/-- Two rows differ in a bit that both their masks fix. -/
theorem opcodeRows_disjoint : opcodeRows.Pairwise fun r r' => r.pattern &&& r'.mask ≠ r'.pattern &&& r.mask := by
  decide

theorem not_matches_both {r r' : OpcodeRow} (hdiff : r.pattern &&& r'.mask ≠ r'.pattern &&& r.mask)
    (hr : w &&& r.mask = r.pattern) : w &&& r'.mask ≠ r'.pattern := by
  intro hr'
  apply hdiff
  rw [← hr, ← hr', BitVec.and_assoc, BitVec.and_assoc, BitVec.and_comm r.mask]

/-- Settles O6: a word that matches a row is an encoded command, which decodes to itself; a word that decodes is an encoded command,
which matches its own row; and two rows differ under their common mask. -/
theorem decodeFollowsTheOpcodeTable : Obligations.DecodeFollowsTheOpcodeTable := by
  unfold Obligations.DecodeFollowsTheOpcodeTable
  refine fun w => ⟨fun row hrow hmatch => ?decodes, ?refused, ?unique⟩
  case decodes =>
    have hdecode := decodeOfEncodeIsTheCommand (row.command w)
    rwa [encode_rowCommand row hrow hmatch] at hdecode
  case refused =>
    cases h : decode w with
    | error e => exact .inr ⟨e, rfl⟩
    | ok i => exact .inl (encodeOfDecodeIsTheWord w i h ▸ encode_matches_a_row i)
  case unique =>
    have hpairwise := opcodeRows_disjoint.filter fun row => decide (w &&& row.mask = row.pattern)
    have hmatch : ∀ row ∈ opcodeRows.filter fun row => w &&& row.mask = row.pattern, w &&& row.mask = row.pattern :=
      fun row hrow => of_decide_eq_true (List.mem_filter.1 hrow).2
    generalize opcodeRows.filter (fun row => w &&& row.mask = row.pattern) = rows at hpairwise hmatch
    match rows with
    | [] | [_] => simp
    | r :: r' :: rows =>
      have hdiff := List.rel_of_pairwise_cons hpairwise (List.mem_cons_self ..)
      exact absurd (hmatch r' (by simp)) (not_matches_both hdiff (hmatch r (by simp)))

end

/-! ### The refused words (O7) -/

theorem decode_eq_modelReserved {w : CmdWord} : decode w = .error .modelReserved ↔
    (opField w).toNat = 4 ∧ (selField w).toNat = 0 ∧ 8 ≤ (immField w).toNat := by
  unfold decode
  split
  case h_4 hop => simp [hop, decodeResolve_eq_error, ← BitVec.toNat_inj]
  case h_12 h4 _ _ _ _ _ _ _ => exact iff_of_false nofun fun ⟨h, _⟩ => h4 h
  all_goals simp [*, decodePlain_eq_error, decodeEncp_eq_error, decodeCfg_eq_error]

theorem decode_eq_illegalCommand {w : CmdWord} : decode w = .error .illegalCommand ↔
    (opField w).toNat = 0 ∨ 12 ≤ (opField w).toNat ∨ ((opField w).toNat = 9 ∧ 4 ≤ (selField w).toNat) ∨
      ((opField w).toNat ≠ 9 ∧ (selField w).toNat ≠ 0) ∨ ((opField w).toNat ∉ [4, 5, 9] ∧ (immField w).toNat ≠ 0) := by
  unfold decode
  split
  case h_4 hop => simp [hop, decodeResolve_eq_error, ← BitVec.toNat_inj]
  case h_5 hop => simp [hop, decodeEncp_eq_error, ← BitVec.toNat_inj]
  case h_9 hop => simp [hop, decodeCfg_eq_error]
  case h_12 =>
    have hop := (opField w).isLt
    have hreserved : (opField w).toNat = 0 ∨ 12 ≤ (opField w).toNat := by
      simp only [imp_false] at *
      omega
    simp only [← or_assoc, hreserved, true_or]
  all_goals simp [*, decodePlain_eq_error, ← BitVec.toNat_inj, imp_iff_not_or]

theorem step_of_bad_word {s : Machine.State} {t : Machine.Transaction} {rest : List Machine.HostRequest} {e : BadWord}
    (hs : s.host = .command t :: rest) (h : decode t.cmdw = .error e) :
    Machine.step s = .refused (Machine.badWordRefusal e) := by
  simp only [Machine.step, hs, Machine.runTransaction, h]

/-- Settles O7: the groups' errors in terms of the three fields, each field a number of the word, and the step hands the reason on. -/
theorem reservedWordsAreRefused : Obligations.ReservedWordsAreRefused := by
  unfold Obligations.ReservedWordsAreRefused
  rintro w op sel imm rfl rfl rfl
  rw [← opField_toNat, ← selField_toNat, ← immField_toNat]
  refine ⟨decode_eq_illegalCommand, decode_eq_modelReserved, fun s t rest hs ht => ?_⟩
  subst ht
  exact ⟨step_of_bad_word hs, step_of_bad_word hs⟩

/-! ### Sample words (O8) -/

/-- Settles O8: fourteen closed words. -/
theorem sampleWordsDecode : Obligations.SampleWordsDecode := by
  unfold Obligations.SampleWordsDecode
  decide

end Sys2Proof
end

section
/-! PROOFS. `UNPACK` against the frames it is given (41_frame_codec.md R138 to R143): a packed frame gives its command back, the fields
that are not read do not matter, and a corrupted `SUM` matters by strictness alone. -/

namespace Sys2Proof.Machine

/-! ### A packed frame (R141, R142) -/

section
variable (c : ClimateCommand) (m : Model) (w : Bool)

/-- A packed field holds the value that stands in its column. -/
theorem frameGet_packFrame_eq {f : FrameField} {v : Byte} (h : packColumn c m w (packFrame c m w) f = v.toNat) :
    frameGet (packFrame c m w) f = v :=
  BitVec.eq_of_toNat_eq ((frameGet_packFrame_toNat c m w f).trans h)

theorem goesOn_packFrame (strict : Bool) : goesOn (packFrame c m w) strict := by
  left
  rw [sumField, frameGet_packFrame_sum, BitVec.setWidth_setWidth_of_le _ (by decide), BitVec.setWidth_eq]

theorem frameGet_packFrame_power : frameGet (packFrame c m w) .power = flagCode (c.power = .on) := by
  apply frameGet_packFrame_eq
  cases h : c.power <;> simp [packColumn, flagCode, h]

theorem modeOfCode_packFrame (hon : c.power = .on) (hmode : c.mode ≠ .off) :
    modeOfCode (frameGet (packFrame c m w) .mode) = some c.mode := by
  rw [modeOfCode_eq_modeTable, frameGet_packFrame_toNat, packColumn, hon]
  cases h : c.mode with
  | off => exact absurd h hmode
  | cool | heat | auto | dry | fanOnly => rfl

theorem fanOfCode_packFrame : fanOfCode (frameGet (packFrame c m w) .fan) = fanOfArg c.fan := by
  have hfan : frameGet (packFrame c m w) .fan = fanCode c.fan := by
    apply frameGet_packFrame_eq
    rcases h : c.fan with ⟨⟨⟩⟩ | _ <;> simp [packColumn, fanCode, h]
  rw [hfan]
  rcases c.fan with ⟨⟨⟩⟩ | _ <;> rfl

theorem swingOfPair_packFrame :
    swingOfPair (frameGet (packFrame c m w) .swingV = 1#8) (frameGet (packFrame c m w) .swingH = 1#8) = c.swing := by
  have hv : frameGet (packFrame c m w) .swingV = flagCode (swingsVertically c.swing) := by
    apply frameGet_packFrame_eq
    cases h : c.swing <;> simp [packColumn, flagCode, swingsVertically, h]
  have hh : frameGet (packFrame c m w) .swingH = flagCode (swingsHorizontally c.swing) := by
    apply frameGet_packFrame_eq
    cases h : c.swing <;> simp [packColumn, flagCode, swingsHorizontally, h]
  rw [hv, hh]
  cases c.swing <;> rfl

theorem preset_packFrame : (if frameGet (packFrame c m w) .sleep = 1#8 then Preset.sleep else .none) = c.preset := by
  have hsleep : frameGet (packFrame c m w) .sleep = flagCode (c.preset = .sleep) := by
    apply frameGet_packFrame_eq
    cases h : c.preset <;> simp [packColumn, flagCode, h]
  rw [hsleep]
  cases c.preset <;> rfl

theorem temp_packFrame (htemp : 16 ≤ c.temp.toNat) :
    BitVec.ofNat 5 ((frameGet (packFrame c m w) .temp).toNat + 16) = c.temp := by
  rw [frameGet_packFrame_toNat, packColumn, Nat.sub_add_cancel htemp, BitVec.ofNat_toNat, BitVec.setWidth_eq]

/-- The record that a packed frame decodes to: the command's, or the prior one turned off. -/
def unpackedRecord (prior : ClimateRecord) : ClimateRecord := if c.power = .on then recordOf c else turnedOff prior

variable {c}

theorem powerOnRecord_packFrame (hon : c.power = .on) (htemp : 16 ≤ c.temp.toNat) :
    powerOnRecord (packFrame c m w) c.mode = recordOf c := by
  rw [powerOnRecord, temp_packFrame c m w htemp, fanOfCode_packFrame, swingOfPair_packFrame, preset_packFrame, ← hon]
  rfl

/-- The codec undoes `PACK`, whatever the strictness. -/
theorem unpackFrame_packFrame (hc : packLegal c) (strict : Bool) (prior : ClimateRecord) :
    unpackFrame (packFrame c m w) strict prior = .ok (unpackedRecord c prior) := by
  obtain ⟨htemp, -, hpower⟩ := hc
  have hgo := goesOn_packFrame c m w strict
  have hbit := frameGet_packFrame_power c m w
  by_cases hon : c.power = .on
  · have hp : frameGet (packFrame c m w) .power ≠ 0#8 := by
      rw [hbit, flagCode]
      simp [hon]
    have hmode : c.mode ≠ .off := fun hoff => hpower ⟨hon, hoff⟩
    rw [unpackFrame_of_mode hgo hp (modeOfCode_packFrame c m w hon hmode), powerOnRecord_packFrame m w hon htemp, unpackedRecord,
      if_pos hon]
  · have hp : frameGet (packFrame c m w) .power = 0#8 := by
      rw [hbit, flagCode]
      simp [hon]
    rw [unpackFrame_of_power_off hgo hp, unpackedRecord, if_neg hon]
    rfl

theorem warnWord_packFrame : warnWord (packFrame c m w) = 0 :=
  if_pos ((goesOn_packFrame c m w true).resolve_right Bool.noConfusion)

end

/-- Where `PACK` completes on a command, its result is the packed frame of a legal command. -/
theorem packResult_ok_of_command {s : State} {F : Frame} {c : ClimateCommand} (h : packResult s = .ok F)
    (hc : unpackCommand s.inp.cmdIn = some c) : packLegal c ∧ ∃ m w, F = packFrame c m w := by
  obtain ⟨c', m, w, hc', -, -, hlo, hhi, hpower, hF⟩ := packResult_ok.1 h
  cases hc.symm.trans hc'
  exact ⟨⟨hlo, hhi, hpower⟩, m, w, hF.symm⟩

/-- Settles O19: the frame is that of a legal command, the codec undoes it, and its checksum is its `SUM`, so nothing warns. -/
theorem unpackOfPackGivesTheCommand : Obligations.UnpackOfPackGivesTheCommand := by
  unfold Obligations.UnpackOfPackGivesTheCommand
  intro s t c s' strict ht hc hframe hs
  obtain ⟨F, hF, rfl⟩ := execPack_next.1 ht
  obtain ⟨hlegal, m, w, rfl⟩ := packResult_ok_of_command hF hc
  replace hframe : s'.inp.frameIn = packFrame c m w := hframe
  have hgo : goesOn s'.inp.frameIn strict := hframe ▸ goesOn_packFrame c m w strict
  have hr : unpackFrame s'.inp.frameIn strict s'.climate = .ok (unpackedRecord c s'.climate) :=
    hframe ▸ unpackFrame_packFrame m w hlegal strict s'.climate
  obtain ⟨u, hu, hcfg, hclimate, -, hresult, hcmdOut, hstatus⟩ := exec_unpack_goes_on_to_record hs hgo hr
  rw [hframe, warnWord_packFrame] at hstatus
  exact ⟨u, hu, hstatus, ⟨hcfg, hclimate, rfl⟩, hresult, hcmdOut⟩

/-! ### The fields that are read (R138) -/

/-- The two frames agree in the fields that a decode reads once the checksum is behind it. -/
def sameReadFields (F G : Frame) : Prop :=
  ∀ f ∈ [FrameField.mode, .power, .fan, .sleep, .temp, .swingV, .swingH], frameGet F f = frameGet G f

section
variable {F G : Frame} {strict : Bool} {prior : ClimateRecord}

theorem unpackFrame_congr_of_goesOn (h : sameReadFields F G) (hF : goesOn F strict) (hG : goesOn G strict) :
    unpackFrame F strict prior = unpackFrame G strict prior := by
  simp only [sameReadFields, List.forall_mem_cons] at h
  obtain ⟨hmode, hpower, hfan, hsleep, htemp, hswingV, hswingH, -⟩ := h
  simp only [unpackFrame, if_neg (not_strict_mismatch_of_goesOn hF), if_neg (not_strict_mismatch_of_goesOn hG), powerOnRecord, hmode,
    hpower, hfan, hsleep, htemp, hswingV, hswingH]

/-- A decode that does not go on ends with the two checksum values. -/
theorem unpackFrame_of_not_goesOn (h : ¬goesOn F strict) :
    unpackFrame F strict prior = .error (.checksumMismatch (checksum F) (sumField F)) := by
  obtain ⟨hne, hstrict⟩ := not_or.1 h
  rw [Bool.not_eq_false] at hstrict
  exact hstrict ▸ unpackFrame_of_strict_mismatch hne

theorem unpackFrame_congr (h : sameReadFields F G) (hsum : sumField F = sumField G) (hcheck : checksum F = checksum G) :
    unpackFrame F strict prior = unpackFrame G strict prior := by
  have hgo : goesOn F strict ↔ goesOn G strict := by rw [goesOn, goesOn, hsum, hcheck]
  by_cases hF : goesOn F strict
  · exact unpackFrame_congr_of_goesOn h hF (hgo.1 hF)
  · rw [unpackFrame_of_not_goesOn hF, unpackFrame_of_not_goesOn (mt hgo.2 hF), hsum, hcheck]

end

/-- Settles O20: the two frames decode to the same record or error with the same warning, and the command uses nothing else of them. -/
theorem unpackIgnoresTheUnreadFields : Obligations.UnpackIgnoresTheUnreadFields := by
  unfold Obligations.UnpackIgnoresTheUnreadFields
  intro s F G hfields hcheck t u ht hu
  have hsum : sumField F = sumField G := congrArg (BitVec.setWidth 4) (hfields .sum (by decide))
  have hread : sameReadFields F G := fun f hf =>
    hfields f (List.mem_append_left [FrameField.sum] hf)
  obtain ⟨strict, hs, ht⟩ := execUnpack_next.1 ht
  obtain ⟨strict', hs', hu⟩ := execUnpack_next.1 hu
  cases hs.symm.trans hs'
  simp only [unpackFrame_congr hread hsum hcheck, frameWarn, hsum, hcheck] at ht hu
  rcases ht with ⟨e, he, rfl⟩ | ⟨r, hr, rfl⟩ <;> rcases hu with ⟨e', he', rfl⟩ | ⟨r', hr', rfl⟩
  · cases he.symm.trans he'
    exact ⟨rfl, rfl, rfl, rfl⟩
  · cases he.symm.trans hr'
  · cases hr.symm.trans he'
  · cases hr.symm.trans hr'
    exact ⟨rfl, rfl, rfl, rfl⟩

/-! ### A corrupted `SUM` (R143) -/

section
variable (F : Frame) (v : Byte)

/-- Byte 7 holds none of the fields that a decode reads after the checksum. -/
theorem sameReadFields_set_seven : sameReadFields (F.set 7 v) F := by
  intro f hf
  have hbyte : (7 : Fin 8) ≠ fieldByte f := by
    revert f
    decide
  exact frameGet_congr f (frame_set_getElem_ne F v hbyte)

theorem sumField_toNat : (sumField F).toNat = bitsOf F[7] 4 4 := by
  rw [sumField, BitVec.toNat_setWidth, frameGet_toNat]
  exact Nat.mod_eq_of_lt (bitsOf_lt ..)

theorem sumField_set_seven_toNat : (sumField (F.set 7 v)).toNat = bitsOf v 4 4 := by
  rw [sumField_toNat, Vector.getElem_set_self]

end

/-! An error or a record ends with the same ports whatever the warning: that is on `STATUS` alone. -/

theorem endWithError_out (e : DecodeError) (warn : Bool) (named : OutPorts → OutPorts) (s : State) :
    (endWithError e warn named s).out = { named (OutPorts.undefined s.freeCtr) with result := .err e } := rfl

theorem endWithRecord_out (r : ClimateRecord) (warn : Bool) (named : OutPorts → OutPorts) (s : State) :
    (endWithRecord r warn named s).out = { named (OutPorts.undefined s.freeCtr) with cmdOut := r, result := .okRecord r } := rfl

/-- The state with `F` on `FRAME_IN` in place of what was there. -/
def withFrameIn (s : State) (F : Frame) : State := { s with inp := { s.inp with frameIn := F } }

@[simp] theorem withFrameIn_frameIn (s : State) (F : Frame) : (withFrameIn s F).inp.frameIn = F := rfl
@[simp] theorem withFrameIn_freeCtr (s : State) (F : Frame) : (withFrameIn s F).freeCtr = s.freeCtr := rfl

/-- A frame that differs from a valid one in its checksum alone: a lenient decode goes on to the same answer, with the warning that the
valid frame does not have; a strict one ends there. -/
theorem exec_unpack_of_bad_checksum {s t : State} {G : Frame} {strict : Bool} (hs : s.cfg.strict = some strict)
    (hvalid : checksum s.inp.frameIn = sumField s.inp.frameIn) (hread : sameReadFields G s.inp.frameIn)
    (hbad : checksum G ≠ sumField G) (ht : exec .unpack s = .next t) :
    ∃ u, exec .unpack (withFrameIn s G) = .next u ∧
      (strict = false → u.out = t.out ∧ u.status.toNat = t.status.toNat + 2 ^ 4) ∧
      (strict = true → ∃ e a, u.out.result = .err (.checksumMismatch e a) ∧ e ≠ a) := by
  cases strict with
  | true =>
    exact ⟨_, exec_unpack_of_error (s := withFrameIn s G) hs (unpackFrame_of_strict_mismatch hbad), Bool.noConfusion,
      fun _ => ⟨_, _, rfl, hbad⟩⟩
  | false =>
    have hsame : unpackFrame G false s.climate = unpackFrame s.inp.frameIn false s.climate :=
      unpackFrame_congr_of_goesOn hread (.inr rfl) (.inr rfl)
    have hwarn : frameWarn G false = true := frameWarn_of_mismatch hbad
    have hquiet : frameWarn s.inp.frameIn false = false := by simp [frameWarn, csumWarn, hvalid]
    obtain ⟨strict, hs', ⟨e, he, rfl⟩ | ⟨r, hr, rfl⟩⟩ := execUnpack_next.1 ht <;> cases hs.symm.trans hs'
    · refine ⟨_, exec_unpack_of_error (s := withFrameIn s G) hs (hsame.trans he), fun _ => ⟨?out, ?status⟩, Bool.noConfusion⟩
      case out => rw [endWithError_out, endWithError_out, withFrameIn_freeCtr]
      case status =>
        rw [endWithError_status, endWithError_status, errorStatus_toNat, errorStatus_toNat, withFrameIn_frameIn, hwarn, hquiet,
          Bool.toNat_true, Bool.toNat_false, Nat.zero_mul, Nat.one_mul, Nat.add_zero]
    · refine ⟨_, exec_unpack_of_ok (s := withFrameIn s G) hs (hsame.trans hr), fun _ => ⟨?out, ?status⟩, Bool.noConfusion⟩
      case out => rw [endWithRecord_out, endWithRecord_out, withFrameIn_freeCtr]
      case status =>
        rw [endWithRecord_status, endWithRecord_status, okStatus_toNat, okStatus_toNat, withFrameIn_frameIn, hwarn, hquiet,
          Bool.toNat_true, Bool.toNat_false, Nat.zero_mul, Nat.one_mul, Nat.zero_add]

/-- Settles O21: the corrupted frame's checksum is the old one, as the fields are, and its `SUM` is not. -/
theorem corruptedSumIsToleratedOnlyWhenLenient : Obligations.CorruptedSumIsToleratedOnlyWhenLenient := by
  unfold Obligations.CorruptedSumIsToleratedOnlyWhenLenient
  intro s v strict t hs hvalid hv ht
  refine exec_unpack_of_bad_checksum hs hvalid (sameReadFields_set_seven _ v) (fun h => hv ?_) ht
  rw [← sumField_set_seven_toNat s.inp.frameIn, ← h, checksum_set_seven, hvalid, sumField_toNat]

end Sys2Proof.Machine
end

section
/-! PROOFS. `DECP` by its outcomes (44_pulse_decoder.md R180 to R192): which sequences give a frame, and which errors the stages can end
in. -/

namespace Sys2Proof.Machine

/-! ### The sequences that carry a frame (R183 to R188) -/

section
variable {tol : Nat} {p : TimingProfile} {P : PulseSeq} {F : Frame}

/-- The bytes 0 to 3 of the result are those of the first loop, so the cells of all eight bytes carry its bits. -/
theorem decodesTo_of_decodePulses (h : decodePulses tol p P = .ok F) : decodesTo tol p P F := by
  obtain ⟨hmin, hmax, hheader, G, hfirst, hfooter, hspace, hlast⟩ := decodePulses_eq_ok.1 h
  obtain ⟨-, hcarryFirst⟩ := (readBytes_eq_ok cellRun_first).1 hfirst
  obtain ⟨hkeep, hcarryLast⟩ := (readBytes_eq_ok cellRun_last).1 hlast
  have hcarry : ∀ b k : Fin 8, carries tol p P (cellIndex b k) (F[b].getLsbD k) := by
    intro b k
    by_cases hb : b ∈ ([4, 5, 6, 7] : List (Fin 8))
    · exact hcarryLast b hb k
    · rw [hkeep b hb]
      exact hcarryFirst b (by revert b; decide) k
  refine ⟨hmin, hmax, hheader, hfooter, hspace, fun b k hb hk => ?_⟩
  have hbit := hcarry ⟨b, hb⟩ ⟨k, hk⟩
  rwa [← frameBit_eq_getLsbD] at hbit

theorem decodePulses_eq_ok_iff_decodesTo : decodePulses tol p P = .ok F ↔ decodesTo tol p P F :=
  ⟨decodesTo_of_decodePulses, decodePulses_of_decodesTo⟩

/-- The stages end in no error of the frame codec. -/
theorem isPulseError_of_decodePulses {e : DecodeError} (h : decodePulses tol p P = .error e) : isPulseError e := by
  rcases decodePulses_eq_error.1 h with ⟨-, rfl⟩ | ⟨-, rfl⟩ | ⟨-, -, ⟨-, rfl⟩ | ⟨-, hfirst | ⟨G, -, hlater⟩⟩⟩
  · exact trivial
  · exact trivial
  · exact trivial
  · obtain ⟨b, -, k, rfl, -⟩ := readBytes_eq_error cellRun_first hfirst
    exact trivial
  · rcases hlater with ⟨-, rfl⟩ | ⟨-, ⟨-, rfl⟩ | ⟨-, hlast⟩⟩
    · exact trivial
    · exact trivial
    · obtain ⟨b, -, k, rfl, -⟩ := readBytes_eq_error cellRun_last hlast
      exact trivial

/-- A sequence of the right length whose first pair is no header. -/
theorem decodePulses_of_no_header (hmin : 130 ≤ P.length) (hmax : P.length ≤ 150)
    (h : pairAt tol P 0 p.headerMark p.headerSpace = false) : decodePulses tol p P = .error .headerMismatch :=
  decodePulses_eq_error.2 (.inr (.inr ⟨hmin, hmax, .inl ⟨h, rfl⟩⟩))

end

/-! ### The command -/

section
variable {s : State}

/-- `DECP` where the stages pass: the frame on both ports, and `STATUS` 0. -/
theorem exec_decp_gives {F : Frame} (hp : ¬zeroDuration s.inp.profileIn)
    (h : decodePulses Config.tolPct s.inp.profileIn s.inp.pulseIn = .ok F) :
    ∃ t, exec .decp s = .next t ∧ t.cfg = s.cfg ∧ t.climate = s.climate ∧ inputsKept s t ∧ t.out.result = .okFrame F ∧
      t.out.frameOut = F ∧ t.status.toNat = 0 :=
  ⟨_, execDecp_next.2 ⟨(profileLegal_iff_not_zeroDuration _).2 hp, .inr ⟨F, h, rfl⟩⟩, complete_cfg .., complete_climate ..,
    ⟨complete_inp .., complete_host ..⟩, rfl, rfl, okStatus_toNat false⟩

theorem exec_decp_okFrame_iff {F : Frame} (hp : ¬zeroDuration s.inp.profileIn) :
    (∃ t, exec .decp s = .next t ∧ t.out.result = .okFrame F) ↔
      decodePulses Config.tolPct s.inp.profileIn s.inp.pulseIn = .ok F := by
  constructor
  · rintro ⟨t, ht, hresult⟩
    obtain ⟨-, ⟨e, -, rfl⟩ | ⟨G, hG, rfl⟩⟩ := execDecp_next.1 ht
    · cases hresult
    · cases hresult
      exact hG
  · intro h
    obtain ⟨t, ht, -, -, -, hresult, -⟩ := exec_decp_gives hp h
    exact ⟨t, ht, hresult⟩

end

/-- Settles O28: the stages give a frame or one of their own errors, and `STATUS` records which. -/
theorem decpWritesStatusOnEveryOutcome : Obligations.DecpWritesStatusOnEveryOutcome := by
  unfold Obligations.DecpWritesStatusOnEveryOutcome
  intro s hp
  cases h : decodePulses Config.tolPct s.inp.profileIn s.inp.pulseIn with
  | ok F =>
    obtain ⟨t, ht, hcfg, hclimate, hinputs, hresult, hframe, hstatus⟩ := exec_decp_gives hp h
    exact ⟨t, ht, hcfg, hclimate, hinputs, .inl ⟨F, hresult, hframe, hstatus⟩⟩
  | error e =>
    obtain ⟨t, ht, hcfg, hclimate, hinputs, hresult, hstatus⟩ := exec_decp_reports hp
    exact ⟨t, ht, hcfg, hclimate, hinputs, .inr ⟨e, (hresult e).2 h, isPulseError_of_decodePulses h, hstatus e h⟩⟩

/-- Settles O29: the command's frame is the decoder's, whose loops are told by places. -/
theorem decpSucceedsExactlyOnTheDescribedSequences : Obligations.DecpSucceedsExactlyOnTheDescribedSequences := by
  unfold Obligations.DecpSucceedsExactlyOnTheDescribedSequences
  intro s F hp
  exact (exec_decp_okFrame_iff hp).trans decodePulses_eq_ok_iff_decodesTo

/-! ### The widest tolerance (R181, R199) -/

section
variable {tol : Nat} {d nom : Dur}

/-- The window at 20 % holds that of every tolerance the spec allows. -/
theorem durMatch_within (htol : tol ≤ 20) (h : durMatch tol d nom = true) :
    80 * nom.toNat ≤ 100 * d.toNat ∧ 100 * d.toNat ≤ 120 * nom.toNat := by
  obtain ⟨hlo, hhi⟩ := durMatch_eq_true.1 h
  have hlow : nom.toNat * 80 ≤ nom.toNat * (100 - tol) := Nat.mul_le_mul_left _ (by omega)
  have hhigh : nom.toNat * (100 + tol) ≤ nom.toNat * 120 := Nat.mul_le_mul_left _ (by omega)
  omega

theorem durMatch_of_far (htol : tol ≤ 20) (h : 120 * nom.toNat < 100 * d.toNat ∨ 100 * d.toNat < 80 * nom.toNat) :
    durMatch tol d nom = false := by
  rw [Bool.eq_false_iff]
  intro hmatch
  have hwithin := durMatch_within htol hmatch
  omega

theorem pairAt_of_mark_far {P : PulseSeq} {i : Nat} {m s : Dur} (hmark : P[i]? = some ⟨.mark, d⟩) (h : durMatch tol d m = false) :
    pairAt tol P i m s = false := by
  unfold pairAt
  rw [hmark]
  cases P[i + 1]? <;> simp [h]

end

/-- Settles O31: the mark lies outside the widest window, so the header stage fails under the block's tolerance. -/
theorem headerMarkOffByMoreThanTwentyPercentFails : Obligations.HeaderMarkOffByMoreThanTwentyPercentFails := by
  unfold Obligations.HeaderMarkOffByMoreThanTwentyPercentFails
  rintro s d nom hp hmin hmax hhead rfl hfar
  have htol : Config.tolPct.val ≤ 20 := Nat.le_of_lt_succ Config.tolPct.isLt
  have hheader := decodePulses_of_no_header hmin hmax
    (pairAt_of_mark_far (s := s.inp.profileIn.headerSpace) (List.head?_eq_getElem? ▸ hhead) (durMatch_of_far htol hfar))
  obtain ⟨t, ht, -, hclimate, -, hresult, hstatus⟩ := exec_decp_reports hp
  exact ⟨t, ht, (hresult _).2 hheader, hstatus _ hheader, hclimate⟩

end Sys2Proof.Machine
end

section
/-! PROOFS. An encoded repetition under a profile (44_pulse_decoder.md R193, R194, R198; 70_reset_and_hazards.md R269): its pairs by
place, what it decodes to whole or cut, and the windows of the profile table. -/

namespace Sys2Proof.Machine

/-! ### The windows of the table (R194) -/

/-- Two nominal durations whose widest windows leave a gap share no duration. -/
theorem not_durMatch_both {tol : Nat} {d a b : Dur} (htol : tol ≤ 20) (hgap : 120 * a.toNat < 80 * b.toNat) :
    ¬(durMatch tol d b = true ∧ durMatch tol d a = true) := by
  rintro ⟨hb, ha⟩
  obtain ⟨hlo, -⟩ := durMatch_within htol hb
  obtain ⟨-, hhi⟩ := durMatch_within htol ha
  omega

/-- In each row of the table ZERO, ONE and MSG are spaced by more than the widest windows. -/
theorem profileOf_spaces_apart (m : Model) : 120 * (profileOf m).zeroSpace.toNat < 80 * (profileOf m).oneSpace.toNat ∧
    120 * (profileOf m).oneSpace.toNat < 80 * (profileOf m).messageSpace.toNat ∧
    120 * (profileOf m).zeroSpace.toNat < 80 * (profileOf m).messageSpace.toNat := by
  cases m <;> decide

/-- Settles O35: the widest windows of the three spaces leave gaps. -/
theorem spaceWindowsAreDisjoint : Obligations.SpaceWindowsAreDisjoint := by
  unfold Obligations.SpaceWindowsAreDisjoint
  rintro m tol d htol p rfl
  obtain ⟨hzeroOne, honeMsg, hzeroMsg⟩ := profileOf_spaces_apart m
  exact ⟨not_durMatch_both htol hzeroOne, fun h => not_durMatch_both htol honeMsg h.symm,
    fun h => not_durMatch_both htol hzeroMsg h.symm⟩

/-! ### The pairs of a repetition by place -/

/-- The cell of symbol `y` as `q` sends it matches the cell of symbol `z` as `p` has it. -/
def symbolMatches (tol : Nat) (q p : TimingProfile) (y z : Symbol) : Bool :=
  durMatch tol (symbolEntries q y).1.dur (symbolEntries p z).1.dur &&
    durMatch tol (symbolEntries q y).2.dur (symbolEntries p z).2.dur

section
variable {tol : Nat} {q p : TimingProfile} {F : Frame}

theorem symbolEntries_level (y : Symbol) : (symbolEntries p y).1.level = .mark ∧ (symbolEntries p y).2.level = .space := by
  cases y <;> exact ⟨rfl, rfl⟩

theorem repetition_getElem?_pair {i n : Nat} (hi : i = 2 * n) (hn : n < 70) :
    (repetition q F)[i]? = some (symbolEntries q (symbolAt F n)).1 ∧
      (repetition q F)[i + 1]? = some (symbolEntries q (symbolAt F n)).2 := by
  subst hi
  rw [repetition_getElem? q F (by omega), repetition_getElem? q F (by omega), entryAt, entryAt, if_pos (by omega), if_neg (by omega)]
  constructor <;> congr <;> omega

/-- The pair at the place of symbol `n` is read as symbol `z` exactly when the symbol sent there matches it. -/
theorem pairAt_repetition {i n : Nat} (hi : i = 2 * n) (hn : n < 70) (z : Symbol) :
    pairAt tol (repetition q F) i (symbolEntries p z).1.dur (symbolEntries p z).2.dur = symbolMatches tol q p (symbolAt F n) z := by
  obtain ⟨hmark, hspace⟩ := repetition_getElem?_pair (q := q) (F := F) hi hn
  obtain ⟨hmarkLevel, hspaceLevel⟩ := symbolEntries_level (p := q) (symbolAt F n)
  simp [pairAt, hmark, hspace, hmarkLevel, hspaceLevel, symbolMatches]

/-- The place of bit `k` of byte `b` is that of its symbol. -/
theorem symbolAt_cell {b k : Nat} (hb : b < 8) (hk : k < 8) :
    ∃ n, cellIndex b k = 2 * n ∧ n < 70 ∧ symbolAt F n = dataSymbol F b k := by
  by_cases hfirst : b < 4
  · refine ⟨1 + 8 * b + k, ?_, by omega, ?_⟩
    · rw [cellIndex, if_pos hfirst]
      omega
    · rw [symbolAt, if_neg (by omega), if_pos (by omega)]
      congr <;> omega
  · refine ⟨37 + 8 * (b - 4) + k, ?_, by omega, ?_⟩
    · rw [cellIndex, if_neg hfirst]
      omega
    · rw [symbolAt, if_neg (by omega), if_neg (by omega), if_neg (by omega), if_neg (by omega), if_neg (by omega), if_pos (by omega)]
      congr <;> omega

end

/-! ### Reading a repetition under another profile -/

/-- The cells that `q` sends, the header aside, are read as the same symbols under `p`, and a ZERO is no ONE. -/
structure CellsRead (tol : Nat) (q p : TimingProfile) : Prop where
  one : symbolMatches tol q p .one .one = true
  zero : symbolMatches tol q p .zero .zero = true
  zeroNotOne : symbolMatches tol q p .zero .one = false
  msg : symbolMatches tol q p .msg .msg = true

section
variable {tol : Nat} {q p : TimingProfile} (F : Frame) {n : Nat}

theorem header_repetition (hn : 2 ≤ n) : pairAt tol ((repetition q F).take n) 0 p.headerMark p.headerSpace =
    symbolMatches tol q p .hdr .hdr := by
  rw [pairAt_take (by omega)]
  exact pairAt_repetition (n := 0) rfl (by decide) .hdr

variable (hq : CellsRead tol q p)
include hq

theorem carries_repetition {i j : Nat} (hi : i = 2 * j) (hj : j < 70) (hn : i + 2 ≤ n) {v : Bool} (hv : symbolAt F j = bitSymbol v) :
    carries tol p ((repetition q F).take n) i v := by
  have hone := pairAt_repetition (tol := tol) (q := q) (p := p) (F := F) hi hj .one
  have hzero := pairAt_repetition (tol := tol) (q := q) (p := p) (F := F) hi hj .zero
  rw [← pairAt_take hn, hv] at hone hzero
  cases v with
  | false => exact ⟨hone.trans hq.zeroNotOne, hzero.trans hq.zero⟩
  | true => exact hone.trans hq.one

theorem carries_repetition_cell {b k : Nat} (hb : b < 8) (hk : k < 8) (hn : cellIndex b k + 2 ≤ n) :
    carries tol p ((repetition q F).take n) (cellIndex b k) (frameBit F b k) := by
  obtain ⟨j, hi, hj, hsymbol⟩ := symbolAt_cell (F := F) hb hk
  exact carries_repetition F hq hi hj hn hsymbol

theorem footerReads_repetition (hn : 72 ≤ n) : footerReads tol p ((repetition q F).take n) :=
  ⟨carries_repetition F hq (j := 33) (v := false) rfl (by decide) (by omega) rfl,
    carries_repetition F hq (j := 34) (v := true) rfl (by decide) (by omega) rfl,
    carries_repetition F hq (j := 35) (v := false) rfl (by decide) (by omega) rfl⟩

theorem messageSpace_repetition (hn : 74 ≤ n) :
    pairAt tol ((repetition q F).take n) 72 p.bitMark p.messageSpace = true := by
  rw [pairAt_take (by omega)]
  exact (pairAt_repetition (n := 36) rfl (by decide) .msg).trans hq.msg

theorem decodesTo_repetition (hheader : symbolMatches tol q p .hdr .hdr = true) (hn : 138 ≤ n) :
    decodesTo tol p ((repetition q F).take n) F := by
  have hlen := List.length_take (i := n) (l := repetition q F)
  rw [repetition_length] at hlen
  refine ⟨by omega, by omega, (header_repetition F (by omega)).trans hheader, footerReads_repetition F hq (by omega),
    messageSpace_repetition F hq (by omega), fun b k hb hk => carries_repetition_cell F hq hb hk ?_⟩
  rw [cellIndex]
  split <;> omega

end

/-! ### A repetition under its own profile (R193, R198) -/

theorem symbolMatches_self (tol : Nat) (p : TimingProfile) (y : Symbol) : symbolMatches tol p p y y = true := by
  simp [symbolMatches, durMatch_self]

theorem cellsRead_profileOf {tol : Nat} (htol : tol ≤ 20) (m : Model) : CellsRead tol (profileOf m) (profileOf m) := by
  obtain ⟨hzeroOne, -, -⟩ := profileOf_spaces_apart m
  refine ⟨symbolMatches_self .., symbolMatches_self .., ?_, symbolMatches_self ..⟩
  have hnotOne : durMatch tol (profileOf m).zeroSpace (profileOf m).oneSpace = false :=
    Bool.eq_false_iff.2 fun hone => not_durMatch_both htol hzeroOne ⟨hone, durMatch_self ..⟩
  simp [symbolMatches, symbolEntries, hnotOne]

/-- Settles O33: every pair up to the cut is read, and the pair at the cut lacks an entry; it is a cell of byte 7. -/
theorem cutSequencesFailInByteSeven : Obligations.CutSequencesFailInByteSeven := by
  unfold Obligations.CutSequencesFailInByteSeven
  intro m F tol n k htol hmin hmax hk
  have hcells := cellsRead_profileOf htol m
  have hcut : cellIndex 7 k = 122 + 2 * k.val := by
    rw [cellIndex, if_neg (by decide)]
  have hlen := List.length_take (i := n) (l := repetition (profileOf m) F)
  rw [repetition_length, Nat.min_eq_left (by omega)] at hlen
  have hread (b' k' : Nat) (hk' : k' < 8) (hlt : 8 * b' + k' < 8 * 7 + k.val) :
      isCell tol (profileOf m) ((repetition (profileOf m) F).take n) (cellIndex b' k') := by
    refine isCell_iff_carries.2 ⟨_, carries_repetition_cell F hcells (by omega) hk' ?_⟩
    rw [cellIndex]
    split <;> omega
  have hbad : ¬isCell tol (profileOf m) ((repetition (profileOf m) F).take n) (cellIndex 7 k) := by
    have hmissing (a b : Dur) : pairAt tol ((repetition (profileOf m) F).take n) (cellIndex 7 k) a b = false :=
      pairAt_of_length_le _ _ _ _ _ (by omega)
    simp [isCell, isOne, isZero, hmissing]
  obtain ⟨G, hfirst⟩ := readBytes_first_of_cellsBefore (F := zeroFrame) fun b' k' _ hk' hlt => hread b' k' hk' (by omega)
  refine decodePulses_eq_error.2 (.inr (.inr ⟨by omega, by omega, .inr ⟨?header, .inr ⟨G, hfirst, .inr ⟨?footer, .inr ⟨?space, ?last⟩⟩⟩⟩⟩))
  case header => exact (header_repetition F (by omega)).trans (symbolMatches_self ..)
  case footer => exact footerReads_repetition F hcells (by omega)
  case space => exact messageSpace_repetition F hcells (by omega)
  case last =>
    exact readBytes_of_first_bad_cell cellRun_last (b := 7) (by decide) (fun b' k' _ hk' hlt => hread b' k' hk' hlt) hbad

/-! ### A repetition under another model's profile (R269) -/

section
variable {tol : Nat} {q p : TimingProfile} (F : Frame)

/-- A whole repetition decodes to its frame from the tolerance on at which the header matches, where the cells do by then. -/
theorem decodePulses_repetition_from {c : Nat} (hheader : symbolMatches tol q p .hdr .hdr = true ↔ c ≤ tol)
    (hcells : c ≤ tol → CellsRead tol q p) :
    decodePulses tol p (repetition q F) = if c ≤ tol then .ok F else .error .headerMismatch := by
  split
  case isTrue h =>
    have hdecodes := decodesTo_repetition F (hcells h) (hheader.2 h) (n := 140) (by decide)
    rw [List.take_of_length_le (repetition_length q F).le] at hdecodes
    exact decodePulses_of_decodesTo hdecodes
  case isFalse h =>
    have hlen := repetition_length q F
    have hno := (pairAt_repetition (F := F) (n := 0) rfl (by decide) .hdr).trans (Bool.eq_false_iff.2 (mt hheader.1 h))
    exact decodePulses_of_no_header (by omega) (by omega) hno

theorem decodePulses_repetition_of_mark_far (htol : tol ≤ 20)
    (h : 120 * p.headerMark.toNat < 100 * q.headerMark.toNat ∨ 100 * q.headerMark.toNat < 80 * p.headerMark.toNat) :
    decodePulses tol p (repetition q F) = .error .headerMismatch := by
  have hlen := repetition_length q F
  exact decodePulses_of_no_header (by omega) (by omega)
    (pairAt_of_mark_far (repetition_getElem?_pair (n := 0) rfl (by decide)).1 (durMatch_of_far htol h))

/-- Two profiles with the same bit cells differ in the message space alone. -/
theorem CellsRead.of_same_bits (hp : CellsRead tol p p) (hmark : q.bitMark = p.bitMark) (hone : q.oneSpace = p.oneSpace)
    (hzero : q.zeroSpace = p.zeroSpace) (hmsg : durMatch tol q.messageSpace p.messageSpace = true) : CellsRead tol q p := by
  exact {
    one := by simpa only [symbolMatches, symbolEntries, hmark, hone] using hp.one
    zero := by simpa only [symbolMatches, symbolEntries, hmark, hzero] using hp.zero
    zeroNotOne := by simpa only [symbolMatches, symbolEntries, hmark, hzero] using hp.zeroNotOne
    msg := by simp only [symbolMatches, symbolEntries, hmark, hmsg, durMatch_self, Bool.and_self] }

end

/-- Settles O36: between YAC1FB9 and the two models with the 9000 µs header the header space alone decides; between 6000 µs and 9000 µs
the header mark never matches. -/
theorem crossModelDecodingHasItsThresholds : Obligations.CrossModelDecodingHasItsThresholds := by
  unfold Obligations.CrossModelDecodingHasItsThresholds
  refine fun F tol htol => ⟨fun m hm => ?same, fun m m' hm hm' => ?different⟩
  case same =>
    have hp : profileOf m = profileOf .generic := by rcases hm with rfl | rfl <;> rfl
    rw [hp]
    refine ⟨decodePulses_repetition_from F ?_ fun h => (cellsRead_profileOf htol _).of_same_bits rfl rfl rfl ?_,
      decodePulses_repetition_from F ?_ fun h => (cellsRead_profileOf htol _).of_same_bits rfl rfl rfl ?_⟩
    all_goals
      simp only [symbolMatches, symbolEntries, profileOf, Bool.and_eq_true, durMatch_eq_true, BitVec.toNat_ofNat, Nat.reducePow,
        Nat.reduceMod, Nat.reduceMul]
      omega
  case different =>
    have hmark : (profileOf m).headerMark = 6000#32 := by rcases hm with rfl | rfl <;> rfl
    have hmark' : (profileOf m').headerMark = 9000#32 := by rcases hm' with rfl | rfl | rfl <;> rfl
    refine ⟨decodePulses_repetition_of_mark_far F htol ?_, decodePulses_repetition_of_mark_far F htol ?_⟩ <;>
      rw [hmark, hmark'] <;> decide

/-! ### The encoder's output (R198) -/

/-- The first 140 entries are one repetition, however many follow. -/
theorem repetitions_take {p : TimingProfile} {F : Frame} {n k : Nat} (hn : n ≠ 0) (h : n = 1 ∨ k ≤ 140) :
    (repetitions p F n).take k = (repetition p F).take k := by
  obtain ⟨n, rfl⟩ := Nat.exists_eq_succ_of_ne_zero hn
  rw [repetitions]
  rcases h with hone | hk
  · obtain rfl : n = 0 := by omega
    rw [repetitions, List.append_nil]
  · exact List.take_append_of_le_length (by rwa [repetition_length])

theorem decodesTo_repetition_of_model (m : Model) (F : Frame) {n : Nat} (hn : 138 ≤ n) :
    decodesTo Config.tolPct (profileOf m) ((repetition (profileOf m) F).take n) F :=
  decodesTo_repetition F (cellsRead_profileOf (Nat.le_of_lt_succ Config.tolPct.isLt) m) (symbolMatches_self ..) hn

/-- Settles O34: what is kept of the first repetition is enough to decode it; two repetitions are too long whatever they hold. -/
theorem decpOfEncpGivesTheFrame : Obligations.DecpOfEncpGivesTheFrame := by
  unfold Obligations.DecpOfEncpGivesTheFrame
  intro s n t s' m k ht hprofile hprofile' hk hpulses
  obtain ⟨hcount, -, rfl⟩ := execEncp_next.1 ht
  replace hpulses : s'.inp.pulseIn = (repetitions (profileOf m) s.inp.frameIn n.toNat).take k := by rw [hpulses, ← hprofile]; rfl
  have hn : n.toNat ≠ 0 := fun h => hcount (BitVec.eq_of_toNat_eq h)
  have hp : ¬zeroDuration s'.inp.profileIn := hprofile' ▸ (profileLegal_iff_not_zeroDuration _).1 (profileLegal_profileOf m)
  obtain ⟨u, hu, -, -, -, hresult, hstatus⟩ := exec_decp_reports hp
  refine ⟨u, hu, fun hone => ?frame, fun htwo hlong => ?tooLong⟩
  case frame =>
    have hdecodes := decodesTo_repetition_of_model m s.inp.frameIn hk
    rw [← repetitions_take hn hone, ← hpulses, ← hprofile'] at hdecodes
    obtain ⟨u', hu', -, -, -, hok, hframe, hzero⟩ := exec_decp_gives hp (decodePulses_of_decodesTo hdecodes)
    cases hu.symm.trans hu'
    exact ⟨hok, hframe, hzero⟩
  case tooLong =>
    refine (hresult _).2 (decodePulses_eq_tooLong.2 ?_)
    rw [hpulses, List.length_take, repetitions_length]
    omega

end Sys2Proof.Machine
end

section
/-! PROOFS. The time of a sequence (43_pulse_encoder.md R166). -/

namespace Sys2Proof.Machine

/-- The durations of a sequence added up. -/
def totalTime (P : PulseSeq) : Nat := (P.map fun e => e.dur.toNat).sum

@[simp] theorem totalTime_append (P Q : PulseSeq) : totalTime (P ++ Q) = totalTime P + totalTime Q := by
  simp [totalTime]

@[simp] theorem totalTime_pulsePair (m s : Dur) : totalTime (pulsePair m s) = m.toNat + s.toNat := by
  simp [totalTime, pulsePair]

section
variable (p : TimingProfile) (F : Frame)

theorem totalTime_repetitions (n : Nat) : totalTime (repetitions p F n) = n * totalTime (repetition p F) := by
  induction n with
  | zero => simp [repetitions, totalTime]
  | succ n ih => rw [repetitions, totalTime_append, ih, Nat.succ_mul, Nat.add_comm]

/-- Each bit takes a mark, and a space of its value. -/
theorem totalTime_byteCells (b : Byte) (ks : List Nat) : totalTime (byteCells p b ks) =
    ks.length * p.bitMark.toNat + ks.countP b.getLsbD * p.oneSpace.toNat + ks.countP (!b.getLsbD ·) * p.zeroSpace.toNat := by
  induction ks with
  | nil => simp [byteCells, totalTime]
  | cons k ks ih =>
    simp only [byteCells, bitCell, totalTime_append, totalTime_pulsePair, ih, List.length_cons, List.countP_cons]
    cases b.getLsbD k <;> simp <;> ring

theorem countP_lsbFirst (b : Byte) : lsbFirst.countP b.getLsbD = byteOnes b ∧ byteOnes b + lsbFirst.countP (!b.getLsbD ·) = 8 := by
  revert b
  decide +kernel

/-- The number of 1 bits in some bytes of the frame. -/
def onesIn (bs : List (Fin 8)) : Nat := (bs.map fun b => byteOnes F[b]).sum

theorem totalTime_frameCells (bs : List (Fin 8)) : ∃ zeros, onesIn F bs + zeros = 8 * bs.length ∧
    totalTime (frameCells p F bs) =
      8 * bs.length * p.bitMark.toNat + onesIn F bs * p.oneSpace.toNat + zeros * p.zeroSpace.toNat := by
  induction bs with
  | nil => exact ⟨0, rfl, by simp [frameCells, onesIn, totalTime]⟩
  | cons b bs ih =>
    obtain ⟨zeros, hcount, htime⟩ := ih
    obtain ⟨hones, hbyte⟩ := countP_lsbFirst F[b]
    have hsum : onesIn F (b :: bs) = byteOnes F[b] + onesIn F bs := rfl
    refine ⟨lsbFirst.countP (!F[b].getLsbD ·) + zeros, ?_, ?_⟩
    · rw [hsum, List.length_cons]
      omega
    · rw [frameCells, totalTime_append, totalTime_byteCells, htime, hones, hsum, List.length_cons, show lsbFirst.length = 8 from rfl]
      ring

/-- A footer `0b010` has one 1 and two 0s, so a repetition has 67 bits beside header and message spaces. -/
theorem totalTime_repetition : totalTime (repetition p F) =
    p.headerMark.toNat + p.headerSpace.toNat + 69 * p.bitMark.toNat + (frameOnes F + 1) * p.oneSpace.toNat +
      (66 - frameOnes F) * p.zeroSpace.toNat + 2 * p.messageSpace.toNat := by
  obtain ⟨zeros, hfirst, htimeFirst⟩ := totalTime_frameCells p F [0, 1, 2, 3]
  obtain ⟨zeros', hlast, htimeLast⟩ := totalTime_frameCells p F [4, 5, 6, 7]
  have hones : frameOnes F = onesIn F [0, 1, 2, 3] + onesIn F [4, 5, 6, 7] := by
    simp [frameOnes, onesIn, Nat.add_assoc]
  have hzeros : 66 - (onesIn F [0, 1, 2, 3] + onesIn F [4, 5, 6, 7]) = zeros + zeros' + 2 := by
    simp only [List.length_cons, List.length_nil] at hfirst hlast
    omega
  have hfooter : totalTime (footerCells p) = 3 * p.bitMark.toNat + 1 * p.oneSpace.toNat + 2 * p.zeroSpace.toNat :=
    totalTime_byteCells p 0b010#8 [0, 1, 2]
  simp only [repetition, messageCell, totalTime_append, totalTime_pulsePair, htimeFirst, htimeLast, hfooter, hones, hzeros,
    List.length_cons, List.length_nil]
  ring

end

/-- Settles O24: the output is the repetitions of one frame, and each takes the same time. -/
theorem encpTakesTheStatedTime : Obligations.EncpTakesTheStatedTime := by
  unfold Obligations.EncpTakesTheStatedTime
  rintro s n t ht p F n1 rfl rfl rfl
  obtain ⟨-, -, rfl⟩ := execEncp_next.1 ht
  exact (totalTime_repetitions ..).trans (congrArg _ (totalTime_repetition ..))

end Sys2Proof.Machine
end

section
/-! PROOFS. `TX` and `RX` as whole paths (43_pulse_encoder.md R163, 44_pulse_decoder.md R195, R198): each is its stages in turn, and the
one undoes the other. -/

namespace Sys2Proof.Machine

/-! ### `TX` (R163) -/

theorem exec_tx_of_ok {s : State} {m : Model} {n : Byte} {F : Frame} (hm : s.cfg.model = some m) (hn : s.cfg.repeats = some n)
    (hF : packResult s = .ok F) :
    exec .tx s = .next (complete s fun o =>
      { o with frameOut := F, pulseOut := repetitions (profileOf m) F n.toNat, carrierOut := Config.carrierHz }) := by
  obtain ⟨-, -, w, -, -, hw, -⟩ := packResult_ok.1 hF
  exact execTx_next.2 ⟨m, w, n, F, hm, hw, hn, hF, rfl⟩

/-- Settles O25: a legal command has a packed frame, whose fields are the column's, and the repetitions have their entries by place. -/
theorem txSendsThePackedFrame : Obligations.TxSendsThePackedFrame := by
  unfold Obligations.TxSendsThePackedFrame
  rintro s c m w n hc hm hw hn ⟨hlo, hhi, hpower⟩
  have hok : packResult s = .ok (packFrame c m w) := packResult_ok.2 ⟨c, m, w, hc, hm, hw, hlo, hhi, hpower, rfl⟩
  exact ⟨_, exec_tx_of_ok hm hn hok, ⟨complete_cfg .., complete_climate .., complete_status ..⟩, ⟨complete_inp .., complete_host ..⟩,
    frameGet_packFrame_toNat c m w, repetitions_length .., rfl, fun j hj => repetitions_getElem? _ _ hj⟩

/-- Settles O26: `PACK` gave the frame, the code of `CFG.MODEL` resolves to its profile, which is legal, and `TX` sends the same
repetitions. -/
theorem txIsPackThenResolveThenEncp : Obligations.TxIsPackThenResolveThenEncp := by
  unfold Obligations.TxIsPackThenResolveThenEncp
  intro s m n a hm hn hcount ha
  obtain ⟨F, hF, rfl⟩ := execPack_next.1 ha
  exact ⟨_, exec_resolve_of_model _ (modelOf_modelCode m), _, execEncp_next.2 ⟨hcount, profileLegal_profileOf m, rfl⟩, _,
    exec_tx_of_ok hm hn hF, rfl, rfl, rfl, ⟨rfl, rfl, rfl⟩, ⟨rfl, rfl, rfl⟩, rfl, rfl⟩

/-! ### `RX` (R195) -/

/-- Settles O39: `RX` runs the pulse stages under the model's legal profile and then the codec on the frame, so the three commands have
the same cases. -/
theorem rxIsDecpThenUnpackThenCommit : Obligations.RxIsDecpThenUnpackThenCommit := by
  unfold Obligations.RxIsDecpThenUnpackThenCommit
  intro s m strict hm hs
  have hlegal := profileLegal_profileOf m
  cases hd : decodePulses Config.tolPct (profileOf m) s.inp.pulseIn with
  | error e =>
    refine ⟨_, execDecp_next.2 ⟨hlegal, .inl ⟨e, hd, rfl⟩⟩, _, execRx_next.2 ⟨m, strict, hm, hs, .inl ⟨e, hd, rfl⟩⟩, ?_, nofun⟩
    rintro e' ⟨⟩
    exact ⟨endWithError_result .., (endWithError_status ..).trans (endWithError_status ..).symm, endWithError_climate ..⟩
  | ok F =>
    refine ⟨_, execDecp_next.2 ⟨hlegal, .inr ⟨F, hd, rfl⟩⟩, ?_⟩
    cases hu : unpackFrame F strict s.climate with
    | error e =>
      refine ⟨_, execRx_next.2 ⟨m, strict, hm, hs, .inr ⟨F, hd, .inl ⟨e, hu, rfl⟩⟩⟩, nofun, ?_⟩
      rintro F' ⟨⟩
      refine ⟨_, exec_unpack_of_error (s := withFrameIn s F) hs hu, rfl, ?result, ?status, ?noRecord, fun _ _ => ?climate⟩
      case result => rw [endWithError_result, endWithError_result]
      case status => rw [endWithError_status, endWithError_status, withFrameIn_frameIn]
      case noRecord => exact fun _ h => nomatch (endWithError_result ..).symm.trans h
      case climate => rw [endWithError_climate]
    | ok r =>
      refine ⟨_, execRx_next.2 ⟨m, strict, hm, hs, .inr ⟨F, hd, .inr ⟨r, hu, rfl⟩⟩⟩, nofun, ?_⟩
      rintro F' ⟨⟩
      refine ⟨_, exec_unpack_of_ok (s := withFrameIn s F) hs hu, rfl, ?result, ?status, ?committed, nofun⟩
      case result => rw [endWithRecord_result, endWithRecord_result]
      case status => rw [endWithRecord_status, endWithRecord_status, withFrameIn_frameIn]
      case committed =>
        rintro r' ⟨⟩
        exact ⟨endWithRecord_climate .., endWithRecord_cmdOut ..⟩

/-! ### The block's own transmission (R198) -/

/-- Settles O40: the single repetition decodes to the packed frame under the same profile, and the codec undoes `PACK`. -/
theorem rxOfTxCommitsTheCommand : Obligations.RxOfTxCommitsTheCommand := by
  unfold Obligations.RxOfTxCommitsTheCommand
  intro s t c s' strict ht hc hrepeats hmodel hs hpulses
  obtain ⟨m, w, n, F, hm, -, hn, hF, rfl⟩ := execTx_next.1 ht
  cases hrepeats.symm.trans hn
  obtain ⟨hlegal, m', w', rfl⟩ := packResult_ok_of_command hF hc
  have hdecodes : decodesTo Config.tolPct (profileOf m) s'.inp.pulseIn (packFrame c m' w') := by
    have hwhole := decodesTo_repetition_of_model m (packFrame c m' w') (n := 140) (by decide)
    rw [← repetitions_take one_ne_zero (.inl rfl), List.take_of_length_le (repetitions_length _ _ 1).le] at hwhole
    exact hpulses ▸ hwhole
  obtain ⟨u, hu, hcfg, -, hstatus, hframe, hresult, -, hclimate⟩ :=
    exec_rx_commits (hmodel.trans hm) hs hdecodes (goesOn_packFrame c m' w' strict) (unpackFrame_packFrame m' w' hlegal strict _)
  exact ⟨u, hu, hstatus.trans (warnWord_packFrame m' w'), hframe, hcfg, hclimate, hresult⟩

end Sys2Proof.Machine
end

section
/-! PROOFS. The registers (10_state.md R23 to R25): which command writes which, and the invariant that every step keeps. -/

namespace Sys2Proof.Machine

/-! ### The writers of each register (10_state.md R23, R24) -/

/-- `t` differs from `s` in no register that command `i` does not write. -/
def respectsWriters (i : Instr) (s t : State) : Prop :=
  inputsKept s t ∧
    (t.climate = s.climate ∨ i = .setst ∨ (i = .rx ∧ t.out.result = .okRecord t.climate)) ∧
    (t.cfg.model = s.cfg.model ∨ ∃ v, i = .cfgModel v) ∧ (t.cfg.strict = s.cfg.strict ∨ ∃ v, i = .cfgStrict v) ∧
    (t.cfg.wifi = s.cfg.wifi ∨ ∃ v, i = .cfgWifi v) ∧ (t.cfg.repeats = s.cfg.repeats ∨ ∃ v, i = .cfgRepeat v)

section
variable {i : Instr} {s t : State}

theorem respectsWriters_of_kept (hinputs : inputsKept s t) (hcfg : t.cfg = s.cfg) (hclimate : t.climate = s.climate) :
    respectsWriters i s t :=
  ⟨hinputs, .inl hclimate, .inl (hcfg ▸ rfl), .inl (hcfg ▸ rfl), .inl (hcfg ▸ rfl), .inl (hcfg ▸ rfl)⟩

theorem respectsWriters_complete (named : OutPorts → OutPorts) : respectsWriters i s (complete s named) :=
  respectsWriters_of_kept ⟨complete_inp .., complete_host ..⟩ (complete_cfg ..) (complete_climate ..)

theorem respectsWriters_endWithError (e : DecodeError) (warn : Bool) (named : OutPorts → OutPorts) :
    respectsWriters i s (endWithError e warn named s) :=
  respectsWriters_of_kept ⟨endWithError_inp .., endWithError_host ..⟩ (endWithError_cfg ..) (endWithError_climate ..)

theorem exec_respectsWriters (h : exec i s = .next t) : respectsWriters i s t := by
  cases i with
  | csum =>
    obtain rfl := execCsum_next.1 h
    exact respectsWriters_complete _
  | pack =>
    obtain ⟨F, -, rfl⟩ := execPack_next.1 h
    exact respectsWriters_complete _
  | unpack =>
    obtain ⟨strict, -, ⟨e, -, rfl⟩ | ⟨r, -, rfl⟩⟩ := execUnpack_next.1 h
    · exact respectsWriters_endWithError ..
    · exact respectsWriters_of_kept ⟨endWithRecord_inp .., endWithRecord_host ..⟩ (endWithRecord_cfg ..) (endWithRecord_climate ..)
  | resolve model =>
    obtain ⟨m, -, rfl⟩ := execResolve_next.1 h
    exact respectsWriters_complete _
  | encp count =>
    obtain ⟨-, -, rfl⟩ := execEncp_next.1 h
    exact respectsWriters_complete _
  | decp =>
    obtain ⟨-, ⟨e, -, rfl⟩ | ⟨F, -, rfl⟩⟩ := execDecp_next.1 h
    · exact respectsWriters_endWithError ..
    · exact respectsWriters_of_kept ⟨complete_inp .., complete_host ..⟩ (complete_cfg ..) (complete_climate ..)
  | tx =>
    obtain ⟨m, w, n, F, -, -, -, -, rfl⟩ := execTx_next.1 h
    exact respectsWriters_complete _
  | rx =>
    obtain ⟨m, strict, -, -, ⟨e, -, rfl⟩ | ⟨F, -, ⟨e, -, rfl⟩ | ⟨r, -, rfl⟩⟩⟩ := execRx_next.1 h
    · exact respectsWriters_endWithError ..
    · exact respectsWriters_endWithError ..
    · have hcfg := endWithRecord_cfg r (frameWarn F strict) (fun o => { o with frameOut := F }) { s with climate := r }
      refine ⟨⟨endWithRecord_inp .., endWithRecord_host ..⟩, .inr (.inr ⟨rfl, ?_⟩), .inl ?_, .inl ?_, .inl ?_, .inl ?_⟩
      · rw [endWithRecord_result, endWithRecord_climate]
      all_goals rw [hcfg]
  | cfgModel value =>
    obtain ⟨m, -, -, rfl⟩ := execCfgModel_next.1 h
    exact ⟨⟨rfl, rfl⟩, .inl rfl, .inr ⟨value, rfl⟩, .inl rfl, .inl rfl, .inl rfl⟩
  | cfgStrict value =>
    obtain ⟨-, rfl⟩ := execCfgStrict_next.1 h
    exact ⟨⟨rfl, rfl⟩, .inl rfl, .inl rfl, .inr ⟨value, rfl⟩, .inl rfl, .inl rfl⟩
  | cfgWifi value =>
    obtain ⟨-, rfl⟩ := execCfgWifi_next.1 h
    exact ⟨⟨rfl, rfl⟩, .inl rfl, .inl rfl, .inl rfl, .inr ⟨value, rfl⟩, .inl rfl⟩
  | cfgRepeat value =>
    obtain ⟨-, rfl⟩ := execCfgRepeat_next.1 h
    exact ⟨⟨rfl, rfl⟩, .inl rfl, .inl rfl, .inl rfl, .inl rfl, .inr ⟨value, rfl⟩⟩
  | setst =>
    obtain ⟨c, -, -, rfl⟩ := execSetst_next.1 h
    exact ⟨⟨rfl, rfl⟩, .inr (.inl rfl), .inl rfl, .inl rfl, .inl rfl, .inl rfl⟩
  | getst =>
    obtain ⟨-, rfl⟩ := execGetst_next.1 h
    exact respectsWriters_complete _

end

/-- Settles O46: command by command, from what each meaning's next state is. -/
theorem eachRegisterHasItsWriters : Obligations.EachRegisterHasItsWriters := by
  unfold Obligations.EachRegisterHasItsWriters
  exact fun i s t => exec_respectsWriters

/-- Settles O42: of the commands only `CFG MODEL` writes the model, and that one needs it ⊥. -/
theorem modelIsWriteOnceUntilReset : Obligations.ModelIsWriteOnceUntilReset := by
  unfold Obligations.ModelIsWriteOnceUntilReset
  intro s t m hm ht
  rcases step_next.1 ht with ⟨-, rfl⟩ | ⟨rest, hhost, rfl⟩ | ⟨tr, rest, i, -, -, hexec⟩
  · exact .inl hm
  · exact .inr ⟨by rw [hhost, List.head?_cons], rfl⟩
  · obtain ⟨-, -, hkept | ⟨v, rfl⟩, -⟩ := exec_respectsWriters hexec
    · exact .inl (hkept.trans hm)
    · obtain ⟨m', -, hnone, -⟩ := execCfgModel_next.1 hexec
      cases hm.symm.trans hnone

/-! ### What a decode of a frame ends in (41_frame_codec.md R131 to R133) -/

section
variable {F : Frame} {strict : Bool} {prior r : ClimateRecord} {e : DecodeError}

theorem record_of_unpackFrame (h : unpackFrame F strict prior = .ok r) :
    r = powerOffRecord prior ∨ ∃ m, modeOfCode (frameGet F .mode) = some m ∧ r = powerOnRecord F m := by
  by_cases hgo : goesOn F strict
  · by_cases hp : frameGet F .power = 0#8
    · exact .inl (Except.ok.inj ((unpackFrame_of_power_off hgo hp).symm.trans h)).symm
    · cases hm : modeOfCode (frameGet F .mode) with
      | none => cases (unpackFrame_of_unknown_mode hgo hp hm).symm.trans h
      | some m => exact .inr ⟨m, rfl, (Except.ok.inj ((unpackFrame_of_mode hgo hp hm).symm.trans h)).symm⟩
  · cases (unpackFrame_of_not_goesOn hgo).symm.trans h

theorem error_of_unpackFrame (h : unpackFrame F strict prior = .error e) :
    (strict = true ∧ checksum F ≠ sumField F ∧ e = .checksumMismatch (checksum F) (sumField F)) ∨
      (modeOfCode (frameGet F .mode) = none ∧ e = .unknownMode ((frameGet F .mode).setWidth 3)) := by
  by_cases hgo : goesOn F strict
  · by_cases hp : frameGet F .power = 0#8
    · cases (unpackFrame_of_power_off hgo hp).symm.trans h
    · cases hm : modeOfCode (frameGet F .mode) with
      | none => exact .inr ⟨rfl, (Except.error.inj ((unpackFrame_of_unknown_mode hgo hp hm).symm.trans h)).symm⟩
      | some m => cases (unpackFrame_of_mode hgo hp hm).symm.trans h
  · obtain ⟨hne, hstrict⟩ := not_or.1 hgo
    exact .inl ⟨Bool.eq_true_of_not_eq_false hstrict, hne, (Except.error.inj ((unpackFrame_of_not_goesOn hgo).symm.trans h)).symm⟩

end

/-! ### `STATE` (10_state.md R24, R30) -/

/-- No `MODE` code stands for OFF. -/
theorem modeOfCode_ne_off {v : Byte} {m : Mode} (h : modeOfCode v = some m) : m ≠ .off := by
  rintro rfl
  rw [modeOfCode_eq_modeTable] at h
  exact absurd (List.mem_of_getElem? h) (by decide)

theorem powerOnRecord_temp_ge (F : Frame) : 16 ≤ (BitVec.ofNat 5 ((frameGet F .temp).toNat + 16)).toNat := by
  have hlt : (frameGet F .temp).toNat < 16 := frameGet_toNat F .temp ▸ bitsOf_lt ..
  rw [BitVec.toNat_ofNat]
  omega

theorem recordOk_powerOnRecord {F : Frame} {m : Mode} (hm : m ≠ .off) : RecordOk (powerOnRecord F m) where
  onIffNotOff := by
    rintro p m' ⟨⟩ ⟨⟩
    exact iff_of_true rfl hm
  tempRange := by
    rintro t ⟨⟩
    exact powerOnRecord_temp_ge F
  powerWithMode := rfl
  restTogether := ⟨rfl, rfl, rfl⟩
  restWithPower _ := rfl
  onIsWhole _ := rfl

/-- Turning a record off keeps its other fields, and an OFF record need not be whole. -/
theorem recordOk_powerOffRecord {prior : ClimateRecord} (h : RecordOk prior) : RecordOk (powerOffRecord prior) where
  onIffNotOff := by
    rintro p m ⟨⟩ ⟨⟩
    decide
  tempRange := h.tempRange
  powerWithMode := rfl
  restTogether := h.restTogether
  restWithPower _ := rfl
  onIsWhole := nofun

theorem recordOk_recordOf {c : ClimateCommand} (h : ¬setstIllFormed c) : RecordOk (recordOf c) := by
  obtain ⟨-, htemp, hpower⟩ := by simpa only [setstIllFormed, not_or, not_lt, not_not] using h
  exact {
    onIffNotOff := by
      rintro p m ⟨⟩ ⟨⟩
      exact hpower
    tempRange := by
      rintro t ⟨⟩
      exact htemp
    powerWithMode := rfl
    restTogether := ⟨rfl, rfl, rfl⟩
    restWithPower := fun _ => rfl
    onIsWhole := fun _ => rfl }

theorem recordOk_of_unpackFrame {F : Frame} {strict : Bool} {prior r : ClimateRecord} (hprior : RecordOk prior)
    (h : unpackFrame F strict prior = .ok r) : RecordOk r := by
  rcases record_of_unpackFrame h with rfl | ⟨m, hm, rfl⟩
  · exact recordOk_powerOffRecord hprior
  · exact recordOk_powerOnRecord (modeOfCode_ne_off hm)

theorem exec_keeps_recordOk {i : Instr} {s t : State} (hs : RecordOk s.climate) (h : exec i s = .next t) : RecordOk t.climate := by
  obtain ⟨-, hkept | rfl | ⟨rfl, -⟩, -⟩ := exec_respectsWriters h
  · exact hkept ▸ hs
  · obtain ⟨c, -, hlegal, rfl⟩ := execSetst_next.1 h
    rw [completeSilent_climate]
    exact recordOk_recordOf ((setstLegal_iff_not_setstIllFormed c).1 hlegal)
  · obtain ⟨m, strict, -, -, ⟨e, -, rfl⟩ | ⟨F, -, ⟨e, -, rfl⟩ | ⟨r, hr, rfl⟩⟩⟩ := execRx_next.1 h
    · exact hs
    · exact hs
    · rw [endWithRecord_climate]
      exact recordOk_of_unpackFrame hs hr

/-! ### `STATUS` (10_state.md R25, 60_exceptions.md R231, R232) -/

/-- The errors that a command can end in with this warning: a code from 5 on for `UnknownMode`, two values that differ for a strict
`ChecksumMismatch`, and no warning before the codec. -/
def errorAllowed (e : DecodeError) (warn : Bool) : Prop :=
  match e with
  | .unknownMode raw => 5 ≤ raw.toNat
  | .checksumMismatch expected actual => expected ≠ actual ∧ warn = false
  | .tooShort | .tooLong | .headerMismatch | .bitDecode _ _ | .footerMismatch | .messageSpaceMismatch => warn = false

theorem statusOk_zero : StatusOk 0#32 := by
  constructor <;> decide

theorem statusOk_okStatus (warn : Bool) : StatusOk (okStatus warn) := by
  cases warn <;> constructor <;> decide

theorem statusOk_errorStatus {e : DecodeError} {warn : Bool} (h : errorAllowed e warn) : StatusOk (errorStatus e warn) := by
  have hword := errorStatus_toNat e warn
  have hwarn : warn.toNat ≤ 1 := Bool.toNat_le warn
  cases e with
  | unknownMode raw =>
    replace h : 5 ≤ raw.toNat := h
    have := raw.isLt
    rw [errorWord] at hword
    constructor <;> omega
  | checksumMismatch expected actual =>
    obtain ⟨hne, rfl⟩ := h
    rw [ne_eq, ← BitVec.toNat_inj] at hne
    have := expected.isLt
    have := actual.isLt
    simp only [errorWord, Bool.toNat_false] at hword
    have hA : (errorStatus (.checksumMismatch expected actual) false).toNat / 2 ^ 12 % 16 = expected.toNat := by omega
    have hB : (errorStatus (.checksumMismatch expected actual) false).toNat / 2 ^ 16 % 16 = actual.toNat := by omega
    constructor
    case mismatch => exact fun _ => ⟨by rwa [hA, hB], by omega⟩
    all_goals omega
  | bitDecode b k =>
    obtain rfl : warn = false := h
    simp only [errorWord, Bool.toNat_false] at hword
    constructor <;> omega
  | tooShort | tooLong | headerMismatch | footerMismatch | messageSpaceMismatch =>
    obtain rfl : warn = false := h
    constructor <;> decide

theorem errorAllowed_of_isPulseError {e : DecodeError} (h : isPulseError e) : errorAllowed e false := by
  cases e with
  | unknownMode | checksumMismatch => exact h.elim
  | tooShort | tooLong | headerMismatch | bitDecode | footerMismatch | messageSpaceMismatch => rfl

theorem errorAllowed_of_unpackFrame {F : Frame} {strict : Bool} {prior : ClimateRecord} {e : DecodeError}
    (h : unpackFrame F strict prior = .error e) : errorAllowed e (frameWarn F strict) := by
  rcases error_of_unpackFrame h with ⟨rfl, hne, rfl⟩ | ⟨hm, rfl⟩
  · exact ⟨hne, by simp [frameWarn, csumWarn]⟩
  · rw [modeOfCode_eq_modeTable, List.getElem?_eq_none_iff] at hm
    have hlt : (frameGet F .mode).toNat < 2 ^ 3 := frameGet_toNat F .mode ▸ bitsOf_lt ..
    rw [errorAllowed, BitVec.toNat_setWidth, Nat.mod_eq_of_lt hlt]
    exact hm

theorem exec_keeps_statusOk {i : Instr} {s t : State} (hs : StatusOk s.status) (h : exec i s = .next t) : StatusOk t.status := by
  by_cases hunpack : i = .unpack
  · subst hunpack
    obtain ⟨strict, -, ⟨e, he, rfl⟩ | ⟨r, -, rfl⟩⟩ := execUnpack_next.1 h
    · exact statusOk_errorStatus (errorAllowed_of_unpackFrame he)
    · exact statusOk_okStatus _
  by_cases hdecp : i = .decp
  · subst hdecp
    obtain ⟨-, ⟨e, he, rfl⟩ | ⟨F, -, rfl⟩⟩ := execDecp_next.1 h
    · exact statusOk_errorStatus (errorAllowed_of_isPulseError (isPulseError_of_decodePulses he))
    · exact statusOk_okStatus _
  by_cases hrx : i = .rx
  · subst hrx
    obtain ⟨m, strict, -, -, ⟨e, he, rfl⟩ | ⟨F, -, ⟨e, he, rfl⟩ | ⟨r, -, rfl⟩⟩⟩ := execRx_next.1 h
    · exact statusOk_errorStatus (errorAllowed_of_isPulseError (isPulseError_of_decodePulses he))
    · exact statusOk_errorStatus (errorAllowed_of_unpackFrame he)
    · exact statusOk_okStatus _
  rw [exec_keeps_status_of_not_decoding hunpack hdecp hrx h]
  exact hs

/-! ### The invariant -/

theorem exec_keeps_repeatsPositive {i : Instr} {s t : State} (hs : s.cfg.repeats ≠ some 0#8) (h : exec i s = .next t) :
    t.cfg.repeats ≠ some 0#8 := by
  obtain ⟨-, -, -, -, -, hkept | ⟨v, rfl⟩⟩ := exec_respectsWriters h
  · exact hkept ▸ hs
  · obtain ⟨hv, rfl⟩ := execCfgRepeat_next.1 h
    exact fun hzero => hv (Option.some.inj hzero)

theorem exec_keeps_stateInv {i : Instr} {s t : State} (hs : StateInv s) (h : exec i s = .next t) : StateInv t :=
  ⟨exec_keeps_recordOk hs.record h, exec_keeps_statusOk hs.status h, exec_keeps_repeatsPositive hs.repeatsPositive h⟩

theorem recordOk_climateReset : RecordOk climateReset := by
  constructor <;> simp [climateReset]

/-- Every state with the registers of reset has the invariant. -/
theorem stateInv_of_registersKept_reset {s : State} (h : registersKept State.reset s) : StateInv s := by
  obtain ⟨hcfg, hclimate, hstatus⟩ := h
  refine ⟨hclimate ▸ recordOk_climateReset, hstatus ▸ statusOk_zero, ?_⟩
  rw [hcfg]
  exact nofun

/-- Settles O51: with every field ⊥ and `STATUS` 0 there is nothing to check. -/
theorem resetHasTheInvariant : Obligations.ResetHasTheInvariant := by
  unfold Obligations.ResetHasTheInvariant
  exact stateInv_of_registersKept_reset ⟨rfl, rfl, rfl⟩

/-- Settles O50: without a request nothing changes, the reset input gives the registers of reset, and a command runs on a state with
the same registers. -/
theorem everyStepKeepsTheInvariant : Obligations.EveryStepKeepsTheInvariant := by
  unfold Obligations.EveryStepKeepsTheInvariant
  intro s t hs ht
  rcases step_next.1 ht with ⟨-, rfl⟩ | ⟨rest, -, rfl⟩ | ⟨tr, rest, i, -, -, hexec⟩
  · exact hs
  · exact stateInv_of_registersKept_reset (registersKept_reset_assertReset _)
  · have hpresent : StateInv (present tr rest s) := ⟨hs.record, hs.status, hs.repeatsPositive⟩
    exact exec_keeps_stateInv hpresent hexec

end Sys2Proof.Machine
end

section
/-! PROOFS. The packed command record (30_encoding.md R84) both ways, the frame's fields as a partition of its bits (R72), and the bits
that the checksum reads (40_checksum.md R113). -/

namespace Sys2Proof.Machine

/-! ### The packed record (R84) -/

/-- A word with bit 15 clear is put together from its own fields. -/
theorem packFields_extract {w : CmdWord} (h : w.getLsbD 15 = false) :
    packFields (w.extractLsb' 14 1) (w.extractLsb' 12 2) (w.extractLsb' 9 3) (w.extractLsb' 4 5) (w.extractLsb' 1 3)
      (w.extractLsb' 0 1) = w := by
  rw [BitVec.getLsbD, Nat.testBit_eq_decide_div_mod_eq, decide_eq_false_iff_not] at h
  apply BitVec.eq_of_toNat_eq
  simp only [packFields_toNat, BitVec.extractLsb'_toNat, Nat.shiftRight_eq_div_pow]
  omega

section
variable (preset : BitVec 1) (swing : BitVec 2) (fan : BitVec 3) (temp : Temp) (mode : BitVec 3) (power : BitVec 1)

theorem packFields_getLsbD_fifteen : (packFields preset swing fan temp mode power).getLsbD 15 = false := by
  rw [BitVec.getLsbD, packFields_toNat, Nat.testBit_eq_decide_div_mod_eq, decide_eq_false_iff_not]
  omega

theorem extract_packFields (w : CmdWord) (hw : packFields preset swing fan temp mode power = w) :
    w.extractLsb' 14 1 = preset ∧ w.extractLsb' 12 2 = swing ∧ w.extractLsb' 9 3 = fan ∧ w.extractLsb' 4 5 = temp ∧
      w.extractLsb' 1 3 = mode ∧ w.extractLsb' 0 1 = power := by
  have hsum := packFields_toNat preset swing fan temp mode power
  rw [hw] at hsum
  simp only [← BitVec.toNat_inj, BitVec.extractLsb'_toNat, Nat.shiftRight_eq_div_pow, hsum]
  refine ⟨?_, ?_, ?_, ?_, ?_, ?_⟩ <;> omega

end

/-! Each field's code determines its value and is determined by it. -/

theorem modeOfBits_eq_some {b : BitVec 3} {m : Mode} : modeOfBits b = some m ↔ modeBits m = b := by
  cases m <;> revert b <;> decide

theorem fanArgOfBits_eq_some {b : BitVec 3} {f : FanArg} : fanArgOfBits b = some f ↔ fanArgBits f = b := by
  rcases f with ⟨⟨⟩⟩ | _ <;> revert b <;> decide

theorem swingOfBits_eq {b : BitVec 2} {v : Swing} : swingOfBits b = v ↔ swingBits v = b := by
  cases v <;> revert b <;> decide

theorem getLsbD_eq_extract (w : CmdWord) (k : Nat) : w.getLsbD k = (w.extractLsb' k 1).getLsbD 0 := by
  simp

theorem powerOf_eq {b : BitVec 1} {v : Power} : powerOf (b.getLsbD 0) = v ↔ powerBits v = b := by
  cases v <;> revert b <;> decide

theorem presetOf_eq {b : BitVec 1} {v : Preset} : presetOf (b.getLsbD 0) = v ↔ presetBits v = b := by
  cases v <;> revert b <;> decide

/-- A word is read as the command whose fields have the codes that stand in it. -/
theorem unpackCommand_eq_some_iff_fields {w : CmdWord} {c : ClimateCommand} : unpackCommand w = some c ↔
    w.getLsbD 15 = false ∧ presetBits c.preset = w.extractLsb' 14 1 ∧ swingBits c.swing = w.extractLsb' 12 2 ∧
      fanArgBits c.fan = w.extractLsb' 9 3 ∧ c.temp = w.extractLsb' 4 5 ∧ modeBits c.mode = w.extractLsb' 1 3 ∧
      powerBits c.power = w.extractLsb' 0 1 := by
  obtain ⟨power, mode, temp, fan, swing, preset⟩ := c
  rw [← modeOfBits_eq_some, ← fanArgOfBits_eq_some, ← swingOfBits_eq, ← powerOf_eq, ← presetOf_eq, ← getLsbD_eq_extract,
    ← getLsbD_eq_extract, unpackCommand, eq_comm (a := temp)]
  cases w.getLsbD 15
  case true => simp
  cases modeOfBits (w.extractLsb' 1 3)
  case none => simp
  cases fanArgOfBits (w.extractLsb' 9 3)
  case none => simp
  simp only [Bool.false_eq_true, if_false, Option.some.injEq, ClimateCommand.mk.injEq, true_and]
  exact ⟨fun ⟨hp, hm, ht, hf, hs, hr⟩ => ⟨hr, hs, hf, ht, hm, hp⟩, fun ⟨hr, hs, hf, ht, hm, hp⟩ => ⟨hp, hm, ht, hf, hs, hr⟩⟩

/-- Reading a word and packing a command are one relation. -/
theorem unpackCommand_eq_some {w : CmdWord} {c : ClimateCommand} : unpackCommand w = some c ↔ packCommand c = w := by
  rw [unpackCommand_eq_some_iff_fields]
  constructor
  · rintro ⟨hbit, hpreset, hswing, hfan, htemp, hmode, hpower⟩
    rw [packCommand, hpreset, hswing, hfan, htemp, hmode, hpower, packFields_extract hbit]
  · rintro rfl
    obtain ⟨hpreset, hswing, hfan, htemp, hmode, hpower⟩ := extract_packFields _ _ _ _ _ _ (packCommand c) rfl
    exact ⟨packFields_getLsbD_fifteen .., hpreset.symm, hswing.symm, hfan.symm, htemp.symm, hmode.symm, hpower.symm⟩

/-- Settles O9: the packed command's number is R84's, and a word that reads as a command is that command packed. -/
theorem packedRecordRoundTrip : Obligations.PackedRecordRoundTrip := by
  unfold Obligations.PackedRecordRoundTrip
  refine ⟨fun c => ⟨packCommand_toNat c, unpackCommand_eq_some.2 rfl⟩, fun w c h => ?_, fun w => unpackCommand_eq_none⟩
  rw [← unpackCommand_eq_some.1 h, packCommand_toNat]

/-! ### The fields of the frame (R72) -/

theorem exists_field_of_bit : ∀ b k : Fin 8,
    ∃ f ∈ frameFields, fieldByte f = b ∧ fieldOffset f ≤ k.val ∧ k.val < fieldOffset f + fieldWidth f := by
  decide +kernel

/-- Settles O11: the table covers every bit, and of two fields in one byte one ends before the other begins. -/
theorem frameFieldsPartitionTheFrame : Obligations.FrameFieldsPartitionTheFrame := by
  unfold Obligations.FrameFieldsPartitionTheFrame
  intro b k
  obtain ⟨f, -, hbyte, hlo, hhi⟩ := exists_field_of_bit b k
  refine ⟨f, ⟨hbyte, hlo, hhi⟩, fun g ⟨hbyte', hlo', hhi'⟩ => ?_⟩
  by_contra hne
  have hdisjoint := fields_disjoint hne (hbyte'.trans hbyte.symm)
  omega

/-! ### The bits that the checksum reads (40_checksum.md R113) -/

/-- What byte `b` adds to the accumulator of R110 when it holds `v`: its low nibble, its high nibble, or nothing. -/
def checksumPart (b : Fin 8) (v : Byte) : Nat :=
  if b.val ≤ 3 then v.toNat % 16 else if b.val ≤ 6 then v.toNat / 16 else 0

theorem checksumPart_lt (b : Fin 8) (v : Byte) : checksumPart b v < 16 := by
  have := v.isLt
  unfold checksumPart
  split
  · omega
  · split <;> omega

theorem checksumAcc_eq_sum_parts (F : Frame) : checksumAcc F = 10 + ∑ b : Fin 8, checksumPart b F[b] := by
  simp [Fin.sum_univ_eight, checksumPart, checksumAcc, ← Nat.add_assoc]

/-- A byte written changes the sum by its own part alone. -/
theorem checksumAcc_set (F : Frame) (b : Fin 8) (v : Byte) :
    checksumAcc (F.set b v) + checksumPart b F[b] = checksumAcc F + checksumPart b v := by
  have hparts (n : Fin 8) : checksumPart n (F.set b v)[n] =
      Function.update (fun n : Fin 8 => checksumPart n F[n]) b (checksumPart b v) n := by
    rw [frame_set_getElem, Function.update_apply, Function.update_apply]
    split
    case isTrue h => rw [h]
    case isFalse => rfl
  rw [checksumAcc_eq_sum_parts, checksumAcc_eq_sum_parts, Finset.sum_congr rfl fun n _ => hparts n,
    Finset.sum_update_of_mem (Finset.mem_univ b), ← Finset.add_sum_erase _ _ (Finset.mem_univ b), Finset.sdiff_singleton_eq_erase]
  omega

/-- The parts are below 16, so two that differ are told apart by the last four bits of the sum. -/
theorem checksum_set_eq_iff (F : Frame) (b : Fin 8) (v : Byte) :
    checksum (F.set b v) = checksum F ↔ checksumPart b v = checksumPart b F[b] := by
  have hset := checksumAcc_set F b v
  have hnew := checksumPart_lt b v
  have hold := checksumPart_lt b F[b]
  rw [← BitVec.toNat_inj, checksum_toNat, checksum_toNat]
  omega

theorem checksumPart_xor_eq_iff (b : Fin 8) (v m : Byte) : checksumPart b (v ^^^ m) = checksumPart b v ↔ checksumPart b m = 0 := by
  have hlow : (v ^^^ m).toNat % 16 = v.toNat % 16 ↔ m.toNat % 16 = 0 := by
    rw [BitVec.toNat_xor, show 16 = 2 ^ 4 from rfl, Nat.xor_mod_two_pow]
    exact xor_left_eq_self_iff
  have hhigh : (v ^^^ m).toNat / 16 = v.toNat / 16 ↔ m.toNat / 16 = 0 := by
    rw [BitVec.toNat_xor, show 16 = 2 ^ 4 from rfl, Nat.xor_div_two_pow]
    exact xor_left_eq_self_iff
  unfold checksumPart
  split
  · exact hlow
  · split
    · exact hhigh
    · exact iff_of_true rfl rfl

theorem checksumPart_bit_ne_zero : ∀ b k : Fin 8, checksumPart b (1#8 <<< k.val) ≠ 0 ↔
    (b.val ≤ 3 ∧ k.val ≤ 3) ∨ (4 ≤ b.val ∧ b.val ≤ 6 ∧ 4 ≤ k.val) := by
  decide

/-- Settles O13: a flipped bit changes its byte's part exactly when the part of that bit alone is not 0. -/
theorem checksumIsSensitiveToItsBitsOnly : Obligations.ChecksumIsSensitiveToItsBitsOnly := by
  unfold Obligations.ChecksumIsSensitiveToItsBitsOnly
  intro F b k
  rw [flipBit, ne_eq, checksum_set_eq_iff, checksumPart_xor_eq_iff]
  exact checksumPart_bit_ne_zero b k

end Sys2Proof.Machine
end

section
/-! PROOFS. When a command is refused (60_exceptions.md R237, R238): each meaning's refusals, and the table of reasons. -/

namespace Sys2Proof.Machine

/-! ### The refusals of each meaning -/

section
variable {s : State} {r : Refusal}

theorem execUnpack_refused : execUnpack s = .refused r ↔ .cfgUnwritten = r ∧ s.cfg.strict = none := by
  unfold execUnpack
  rcases s.cfg.strict with _ | strict
  · simp
  · cases h : unpackFrame s.inp.frameIn strict s.climate <;> simp [h]

theorem execResolve_refused {model : BitVec 3} :
    execResolve model s = .refused r ↔ .modelReserved = r ∧ modelOf model.toNat = none := by
  unfold execResolve
  cases modelOf model.toNat <;> simp

theorem execEncp_refused {count : Byte} : execEncp count s = .refused r ↔
    (.repeatZero = r ∧ count = 0#8) ∨ (.badProfile = r ∧ count ≠ 0#8 ∧ profileLegal s.inp.profileIn = false) := by
  unfold execEncp
  by_cases h : count = 0#8
  · simp [h]
  · cases profileLegal s.inp.profileIn <;> simp [h]

theorem execDecp_refused : execDecp s = .refused r ↔ .badProfile = r ∧ profileLegal s.inp.profileIn = false := by
  unfold execDecp
  cases profileLegal s.inp.profileIn
  · simp
  · cases decodePulses Config.tolPct s.inp.profileIn s.inp.pulseIn <;> simp

/-- `TX` looks at `CFG` before it packs. -/
theorem execTx_refused : execTx s = .refused r ↔ (.cfgUnwritten = r ∧ lacksCfg .tx s.cfg) ∨
    (¬lacksCfg .tx s.cfg ∧ packResult s = .error r) := by
  unfold execTx lacksCfg
  rcases s.cfg.model with _ | m
  · simp
  rcases s.cfg.wifi with _ | w
  · simp
  rcases s.cfg.repeats with _ | n
  · simp
  cases packResult s <;> simp

theorem execRx_refused : execRx s = .refused r ↔ .cfgUnwritten = r ∧ lacksCfg .rx s.cfg := by
  unfold execRx lacksCfg
  rcases s.cfg.model with _ | m
  · simp
  rcases s.cfg.strict with _ | strict
  · simp
  cases h : decodePulses Config.tolPct (profileOf m) s.inp.pulseIn with
  | error e => simp [h]
  | ok F => cases h' : unpackFrame F strict s.climate <;> simp [h, h']

theorem execCfgModel_refused {value : Byte} : execCfgModel value s = .refused r ↔
    (.modelReserved = r ∧ modelOf value.toNat = none) ∨ (.modelRewrite = r ∧ modelOf value.toNat ≠ none ∧ s.cfg.model ≠ none) := by
  unfold execCfgModel
  cases modelOf value.toNat <;> cases s.cfg.model <;> simp

theorem execCfgStrict_refused {value : Byte} : execCfgStrict value s = .refused r ↔ .illegalCommand = r ∧ value.toNat > 1 := by
  unfold execCfgStrict
  by_cases h : value.toNat > 1 <;> simp [h]

theorem execCfgWifi_refused {value : Byte} : execCfgWifi value s = .refused r ↔ .illegalCommand = r ∧ value.toNat > 1 := by
  unfold execCfgWifi
  by_cases h : value.toNat > 1 <;> simp [h]

theorem execCfgRepeat_refused {value : Byte} : execCfgRepeat value s = .refused r ↔ .repeatZero = r ∧ value = 0#8 := by
  unfold execCfgRepeat
  by_cases h : value = 0#8 <;> simp [h]

theorem execSetst_refused : execSetst s = .refused r ↔ (.badCommandWord = r ∧ unpackCommand s.inp.cmdIn = none) ∨
    (.stateIllFormed = r ∧ ∃ c, unpackCommand s.inp.cmdIn = some c ∧ setstLegal c = false) := by
  unfold execSetst
  rcases unpackCommand s.inp.cmdIn with _ | c
  · simp
  · cases h : setstLegal c <;> simp [h]

theorem execGetst_refused : execGetst s = .refused r ↔ .stateUnwritten = r ∧ recordWritten s.climate = false := by
  unfold execGetst
  cases recordWritten s.climate <;> simp

end

/-! ### The table of reasons (R238) -/

theorem profileLegal_eq_false_iff (p : TimingProfile) : profileLegal p = false ↔ zeroDuration p := by
  rw [← Bool.not_eq_true, profileLegal_iff_not_zeroDuration, not_not]

theorem setstLegal_eq_false_iff (c : ClimateCommand) : setstLegal c = false ↔ setstIllFormed c := by
  rw [← Bool.not_eq_true, setstLegal_iff_not_setstIllFormed, not_not]

theorem recordWritten_eq_false_iff (r : ClimateRecord) : recordWritten r = false ↔ hasUnwritten r := by
  rw [← Bool.not_eq_true, recordWritten_iff_not_hasUnwritten, not_not]

section
variable {i : Instr} {s t : State} {r : Refusal}

/-- A reason that stops the packing of a command applies to `PACK` and to `TX`. -/
theorem refusalCause_of_packResult (hi : i = .pack ∨ i = .tx) (hcfg : lacksCfg .pack s.cfg → lacksCfg i s.cfg)
    (h : packResult s = .error r) : refusalCause i s r := by
  rcases packRefusalHolds_of_error h with ⟨rfl, hlacks⟩ | ⟨rfl, hbad⟩ | ⟨c, hc, ⟨rfl, htemp⟩ | ⟨rfl, hpower⟩⟩
  · exact hcfg hlacks
  · exact ⟨hi.imp_right .inl, hbad⟩
  · exact ⟨hi, c, hc, htemp⟩
  · exact ⟨hi, c, hc, hpower⟩

theorem refusalCause_of_refused (h : exec i s = .refused r) : refusalCause i s r := by
  cases i with
  | csum => cases h
  | pack => exact refusalCause_of_packResult (.inl rfl) id (exec_pack_refused.1 h)
  | unpack =>
    obtain ⟨rfl, hstrict⟩ := execUnpack_refused.1 h
    exact hstrict
  | resolve m =>
    obtain ⟨rfl, hm⟩ := execResolve_refused.1 h
    exact .inl ⟨m, modelOf_eq_none.1 hm, rfl⟩
  | encp n =>
    rcases execEncp_refused.1 h with ⟨rfl, rfl⟩ | ⟨rfl, -, hp⟩
    · exact .inl rfl
    · exact ⟨.inl ⟨n, rfl⟩, (profileLegal_eq_false_iff _).1 hp⟩
  | decp =>
    obtain ⟨rfl, hp⟩ := execDecp_refused.1 h
    exact ⟨.inr rfl, (profileLegal_eq_false_iff _).1 hp⟩
  | tx =>
    rcases execTx_refused.1 h with ⟨rfl, hlacks⟩ | ⟨-, hpack⟩
    · exact hlacks
    · exact refusalCause_of_packResult (.inr rfl) (Or.imp_right .inl) hpack
  | rx =>
    obtain ⟨rfl, hlacks⟩ := execRx_refused.1 h
    exact hlacks
  | cfgModel v =>
    rcases execCfgModel_refused.1 h with ⟨rfl, hv⟩ | ⟨rfl, -, hwritten⟩
    · exact .inr ⟨v, modelOf_eq_none.1 hv, rfl⟩
    · exact ⟨⟨v, rfl⟩, hwritten⟩
  | cfgStrict v =>
    obtain ⟨rfl, hv⟩ := execCfgStrict_refused.1 h
    exact ⟨v, hv, .inl rfl⟩
  | cfgWifi v =>
    obtain ⟨rfl, hv⟩ := execCfgWifi_refused.1 h
    exact ⟨v, hv, .inr rfl⟩
  | cfgRepeat v =>
    obtain ⟨rfl, rfl⟩ := execCfgRepeat_refused.1 h
    exact .inr rfl
  | setst =>
    rcases execSetst_refused.1 h with ⟨rfl, hbad⟩ | ⟨rfl, c, hc, hill⟩
    · exact ⟨.inr (.inr rfl), unpackCommand_eq_none.1 hbad⟩
    · exact ⟨rfl, c, hc, (setstLegal_eq_false_iff c).1 hill⟩
  | getst =>
    obtain ⟨rfl, hunwritten⟩ := execGetst_refused.1 h
    exact ⟨rfl, (recordWritten_eq_false_iff _).1 hunwritten⟩

/-! ### No reason applies to a command that completes -/

/-- A command that packs and completes has packed. -/
theorem packResult_ok_of_next (hi : i = .pack ∨ i = .tx) (h : exec i s = .next t) : ∃ F, packResult s = .ok F := by
  rcases hi with rfl | rfl
  · obtain ⟨F, hF, -⟩ := execPack_next.1 h
    exact ⟨F, hF⟩
  · obtain ⟨m, w, n, F, -, -, -, hF, -⟩ := execTx_next.1 h
    exact ⟨F, hF⟩

theorem packLegal_of_next (hi : i = .pack ∨ i = .tx) (h : exec i s = .next t) {c : ClimateCommand}
    (hc : unpackCommand s.inp.cmdIn = some c) : packLegal c := by
  obtain ⟨F, hF⟩ := packResult_ok_of_next hi h
  exact (packResult_ok_of_command hF hc).1

theorem not_badRecordWord_of_next (hi : i = .pack ∨ i = .tx ∨ i = .setst) (h : exec i s = .next t) :
    ¬badRecordWord s.inp.cmdIn := by
  rw [← unpackCommand_eq_none]
  rcases or_assoc.2 hi with hpacks | rfl
  · obtain ⟨F, hF⟩ := packResult_ok_of_next hpacks h
    obtain ⟨c, -, -, hc, -⟩ := packResult_ok.1 hF
    simp [hc]
  · obtain ⟨c, hc, -⟩ := execSetst_next.1 h
    simp [hc]

theorem not_lacksCfg_of_next (h : exec i s = .next t) : ¬lacksCfg i s.cfg := by
  cases i with
  | pack =>
    obtain ⟨F, hF, -⟩ := execPack_next.1 h
    obtain ⟨c, m, w, -, hm, hw, -⟩ := packResult_ok.1 hF
    simp [lacksCfg, hm, hw]
  | unpack =>
    obtain ⟨strict, hs, -⟩ := execUnpack_next.1 h
    simp [lacksCfg, hs]
  | tx =>
    obtain ⟨m, w, n, F, hm, hw, hn, -⟩ := execTx_next.1 h
    simp [lacksCfg, hm, hw, hn]
  | rx =>
    obtain ⟨m, strict, hm, hs, -⟩ := execRx_next.1 h
    simp [lacksCfg, hm, hs]
  | csum | resolve | encp | decp | cfgModel | cfgStrict | cfgWifi | cfgRepeat | setst | getst => exact id

/-- Reason by reason: the next state's conditions exclude what the table names. -/
theorem not_refusalCause_of_next (h : exec i s = .next t) : ¬refusalCause i s r := by
  intro hcause
  cases r with
  | notModelled => exact hcause
  | illegalCommand =>
    obtain ⟨v, hv, rfl | rfl⟩ := hcause
    · obtain ⟨hflag, -⟩ := execCfgStrict_next.1 h
      omega
    · obtain ⟨hflag, -⟩ := execCfgWifi_next.1 h
      omega
  | cfgUnwritten => exact not_lacksCfg_of_next h hcause
  | stateUnwritten =>
    obtain ⟨rfl, hunwritten⟩ := hcause
    obtain ⟨hwritten, -⟩ := execGetst_next.1 h
    exact (recordWritten_iff_not_hasUnwritten _).1 hwritten hunwritten
  | modelReserved =>
    obtain ⟨m, hm, rfl⟩ | ⟨v, hv, rfl⟩ := hcause
    · obtain ⟨model, hmodel, -⟩ := execResolve_next.1 h
      cases (modelOf_eq_none.2 hm).symm.trans hmodel
    · obtain ⟨model, hmodel, -⟩ := execCfgModel_next.1 h
      cases (modelOf_eq_none.2 hv).symm.trans hmodel
  | modelRewrite =>
    obtain ⟨⟨v, rfl⟩, hwritten⟩ := hcause
    obtain ⟨m, -, hnone, -⟩ := execCfgModel_next.1 h
    exact hwritten hnone
  | repeatZero =>
    obtain rfl | rfl := hcause
    · obtain ⟨hcount, -⟩ := execEncp_next.1 h
      exact hcount rfl
    · obtain ⟨hvalue, -⟩ := execCfgRepeat_next.1 h
      exact hvalue rfl
  | badProfile =>
    obtain ⟨⟨n, rfl⟩ | rfl, hzero⟩ := hcause
    · obtain ⟨-, hlegal, -⟩ := execEncp_next.1 h
      exact (profileLegal_iff_not_zeroDuration _).1 hlegal hzero
    · obtain ⟨hlegal, -⟩ := execDecp_next.1 h
      exact (profileLegal_iff_not_zeroDuration _).1 hlegal hzero
  | tempOutOfRange =>
    obtain ⟨hi, c, hc, htemp⟩ := hcause
    obtain ⟨hlo, hhi, -⟩ := packLegal_of_next hi h hc
    omega
  | powerOnModeOff =>
    obtain ⟨hi, c, hc, hpower⟩ := hcause
    obtain ⟨-, -, hlegal⟩ := packLegal_of_next hi h hc
    exact hlegal hpower
  | badCommandWord =>
    obtain ⟨hi, hbad⟩ := hcause
    exact not_badRecordWord_of_next hi h hbad
  | stateIllFormed =>
    obtain ⟨rfl, c, hc, hill⟩ := hcause
    obtain ⟨c', hc', hlegal, -⟩ := execSetst_next.1 h
    cases hc.symm.trans hc'
    exact (setstLegal_iff_not_setstIllFormed c).1 hlegal hill

theorem exec_next_or_refused (i : Instr) (s : State) : (∃ t, exec i s = .next t) ∨ ∃ r, exec i s = .refused r := by
  cases h : exec i s with
  | next t => exact .inl ⟨t, rfl⟩
  | refused r => exact .inr ⟨r, rfl⟩
  | fault f => exact nomatch f

end

/-- Settles O47: a command completes or is refused, the reason of a refusal applies, and none applies to a command that completes. -/
theorem commandsCompleteUnlessARefusalReasonApplies : Obligations.CommandsCompleteUnlessARefusalReasonApplies := by
  unfold Obligations.CommandsCompleteUnlessARefusalReasonApplies
  refine fun i s => ⟨⟨fun ⟨t, ht⟩ r => not_refusalCause_of_next ht, fun hnone => ?completes⟩, fun r => refusalCause_of_refused⟩
  case completes => exact (exec_next_or_refused i s).resolve_right fun ⟨r, hr⟩ => hnone r (refusalCause_of_refused hr)

/-! ### The configuration (70_reset_and_hazards.md R262) -/

/-- With a good word on `CMD_IN`, the first thing that stops an unconfigured command is its configuration (log 9). -/
theorem exec_of_lacksCfg {i : Instr} {s : State} (hword : ¬badRecordWord s.inp.cmdIn) (h : lacksCfg i s.cfg) :
    exec i s = .refused .cfgUnwritten := by
  cases i with
  | pack =>
    obtain ⟨c, hc⟩ := Option.ne_none_iff_exists'.1 (mt unpackCommand_eq_none.1 hword)
    exact exec_pack_refused.2 (packResult_error.2 (.inr ⟨c, hc, .inl ⟨rfl, h⟩⟩))
  | unpack => exact execUnpack_refused.2 ⟨rfl, h⟩
  | tx => exact execTx_refused.2 (.inl ⟨rfl, h⟩)
  | rx => exact execRx_refused.2 ⟨rfl, h⟩
  | csum | resolve | encp | decp | cfgModel | cfgStrict | cfgWifi | cfgRepeat | setst | getst => exact h.elim

/-- Settles O48: ⊥ is a reason of the table, so the command does not complete; and the table gives `CfgUnwritten` for nothing else. -/
theorem commandsNeedTheirConfiguration : Obligations.CommandsNeedTheirConfiguration := by
  unfold Obligations.CommandsNeedTheirConfiguration
  refine fun i s => ⟨fun hlacks => ⟨?refused, fun hword => exec_of_lacksCfg hword hlacks⟩, refusalCause_of_refused⟩
  case refused => exact (exec_next_or_refused i s).resolve_left fun ⟨t, ht⟩ => not_lacksCfg_of_next ht hlacks

end Sys2Proof.Machine
end

section
/-! PROOFS. A command issued again (20_memory.md R58), and the step that issues one (70_reset_and_hazards.md R264). -/

namespace Sys2Proof.Machine

/-! ### A command issued again (R58) -/

/-- Decoding a frame onto the record it gave gives that record again. -/
theorem unpackFrame_again {F : Frame} {strict : Bool} {prior r : ClimateRecord} (h : unpackFrame F strict prior = .ok r) :
    unpackFrame F strict r = .ok r := by
  have hgo : goesOn F strict := by
    by_contra hno
    cases (unpackFrame_of_not_goesOn hno).symm.trans h
  by_cases hp : frameGet F .power = 0#8
  · cases (unpackFrame_of_power_off hgo hp).symm.trans h
    exact unpackFrame_of_power_off hgo hp
  · cases hm : modeOfCode (frameGet F .mode) with
    | none => cases (unpackFrame_of_unknown_mode hgo hp hm).symm.trans h
    | some m =>
      cases (unpackFrame_of_mode hgo hp hm).symm.trans h
      exact unpackFrame_of_mode hgo hp hm

/-- `i`, issued in `t`, completes again, with the same registers and the same values on the ports it names. -/
def repeatsItself (i : Instr) (t : State) : Prop :=
  ∃ u, exec i t = .next u ∧ registersKept t u ∧ namedPortsAgree i t.out u.out

section
variable {i : Instr} {s t : State} {e : DecodeError} {r : ClimateRecord} {warn : Bool} {named : OutPorts → OutPorts}

theorem registersKept_complete : registersKept t (complete t named) :=
  ⟨complete_cfg .., complete_climate .., complete_status ..⟩

theorem registersKept_endWithError (h : t.status = errorStatus e warn) : registersKept t (endWithError e warn named t) :=
  ⟨endWithError_cfg .., endWithError_climate .., (endWithError_status ..).trans h.symm⟩

theorem registersKept_endWithRecord (h : t.status = okStatus warn) : registersKept t (endWithRecord r warn named t) :=
  ⟨endWithRecord_cfg .., endWithRecord_climate .., (endWithRecord_status ..).trans h.symm⟩

/-- What an error leaves for the same command to find again. -/
theorem of_endWithError (h : endWithError e warn named s = t) :
    t.cfg = s.cfg ∧ t.climate = s.climate ∧ t.inp = s.inp ∧ t.status = errorStatus e warn ∧ t.out.result = .err e := by
  subst h
  exact ⟨endWithError_cfg .., endWithError_climate .., endWithError_inp .., endWithError_status .., endWithError_result ..⟩

/-- What a record leaves for the same command to find again. -/
theorem of_endWithRecord (h : endWithRecord r warn named s = t) : t.cfg = s.cfg ∧ t.climate = s.climate ∧ t.inp = s.inp ∧
    t.status = okStatus warn ∧ t.out.result = .okRecord r ∧ t.out.cmdOut = r := by
  subst h
  exact ⟨endWithRecord_cfg .., endWithRecord_climate .., endWithRecord_inp .., endWithRecord_status .., endWithRecord_result ..,
    endWithRecord_cmdOut ..⟩

theorem exec_unpack_again (h : exec .unpack s = .next t) : repeatsItself .unpack t := by
  obtain ⟨strict, hs, ⟨e, he, ht⟩ | ⟨r, hr, ht⟩⟩ := execUnpack_next.1 h
  · obtain ⟨hcfg, hclimate, hinp, hstatus, hresult⟩ := of_endWithError ht
    rw [← hcfg] at hs
    rw [← hinp, ← hclimate] at he
    refine ⟨_, exec_unpack_of_error hs he, registersKept_endWithError (hinp ▸ hstatus), ?_, ?_⟩
    · rw [hresult, endWithError_result]
    · rintro ⟨r, hr⟩
      cases hresult.symm.trans hr
  · obtain ⟨hcfg, hclimate, hinp, hstatus, hresult, hcmdOut⟩ := of_endWithRecord ht
    rw [← hcfg] at hs
    rw [← hinp, ← hclimate] at hr
    refine ⟨_, exec_unpack_of_ok hs hr, registersKept_endWithRecord (hinp ▸ hstatus), ?_, fun _ => ?_⟩
    · rw [hresult, endWithRecord_result]
    · rw [hcmdOut, endWithRecord_cmdOut]

theorem exec_decp_again (h : exec .decp s = .next t) : repeatsItself .decp t := by
  obtain ⟨hp, ⟨e, he, ht⟩ | ⟨F, hF, ht⟩⟩ := execDecp_next.1 h
  · obtain ⟨-, -, hinp, hstatus, hresult⟩ := of_endWithError ht
    rw [← hinp] at hp he
    refine ⟨_, execDecp_next.2 ⟨hp, .inl ⟨e, he, rfl⟩⟩, registersKept_endWithError hstatus, ?_, ?_⟩
    · rw [hresult, endWithError_result]
    · rintro ⟨F, hF⟩
      cases hresult.symm.trans hF
  · have hinp : t.inp = s.inp := by rw [← ht, complete_inp]
    have hstatus : t.status = okStatus false := by rw [← ht, complete_status]
    have hresult : t.out.result = .okFrame F := by rw [← ht, complete_out]
    have hframe : t.out.frameOut = F := by rw [← ht, complete_out]
    rw [← hinp] at hp hF
    refine ⟨_, execDecp_next.2 ⟨hp, .inr ⟨F, hF, rfl⟩⟩, ⟨complete_cfg .., complete_climate .., ?_⟩, ?_, fun _ => ?_⟩
    · rw [complete_status, hstatus]
    · rw [hresult, complete_out]
    · rw [hframe, complete_out]

/-- The committed record is the one that the frame gives on top of it. -/
theorem exec_rx_again (h : exec .rx s = .next t) : repeatsItself .rx t := by
  obtain ⟨m, strict, hm, hs, ⟨e, he, ht⟩ | ⟨F, hF, ⟨e, he, ht⟩ | ⟨r, hr, ht⟩⟩⟩ := execRx_next.1 h
  · obtain ⟨hcfg, -, hinp, hstatus, hresult⟩ := of_endWithError ht
    rw [← hcfg] at hm hs
    rw [← hinp] at he
    have hpulse := isPulseError_of_decodePulses he
    refine ⟨_, execRx_next.2 ⟨m, strict, hm, hs, .inl ⟨e, he, rfl⟩⟩, registersKept_endWithError hstatus, ?_, ?_, ?_⟩
    · rw [hresult, endWithError_result]
    · rintro ⟨r, hr⟩
      cases hresult.symm.trans hr
    · intro e' he' hno
      cases hresult.symm.trans he'
      exact absurd hpulse hno
  · obtain ⟨hcfg, hclimate, hinp, hstatus, hresult⟩ := of_endWithError ht
    have hframe : t.out.frameOut = F := by rw [← ht, endWithError_frameOut]
    rw [← hcfg] at hm hs
    rw [← hinp] at hF
    rw [← hclimate] at he
    refine ⟨_, execRx_next.2 ⟨m, strict, hm, hs, .inr ⟨F, hF, .inl ⟨e, he, rfl⟩⟩⟩, registersKept_endWithError hstatus, ?_, ?_, ?_⟩
    · rw [hresult, endWithError_result]
    · rintro ⟨r, hr⟩
      cases hresult.symm.trans hr
    · intro _ _ _
      rw [hframe, endWithError_frameOut]
  · obtain ⟨hcfg, hclimate, hinp, hstatus, hresult, hcmdOut⟩ := of_endWithRecord ht
    have hframe : t.out.frameOut = F := by rw [← ht, endWithRecord_frameOut]
    replace hcfg : t.cfg = s.cfg := hcfg
    replace hinp : t.inp = s.inp := hinp
    replace hclimate : t.climate = r := hclimate
    rw [← hcfg] at hm hs
    rw [← hinp] at hF
    have hagain : unpackFrame F strict t.climate = .ok r := by rw [hclimate, unpackFrame_again hr]
    refine ⟨_, execRx_next.2 ⟨m, strict, hm, hs, .inr ⟨F, hF, .inr ⟨r, hagain, rfl⟩⟩⟩,
      ⟨endWithRecord_cfg .., (endWithRecord_climate ..).trans hclimate.symm, (endWithRecord_status ..).trans hstatus.symm⟩, ?_, ?_, ?_⟩
    · rw [hresult, endWithRecord_result]
    · intro _
      rw [hcmdOut, hframe, endWithRecord_cmdOut, endWithRecord_frameOut]
      exact ⟨rfl, rfl⟩
    · intro e he
      cases hresult.symm.trans he

/-! The other commands end in a completion, and find there what they read before. -/

theorem exec_again (hmodel : ∀ v, i ≠ .cfgModel v) (h : exec i s = .next t) : repeatsItself i t := by
  cases i with
  | unpack => exact exec_unpack_again h
  | decp => exact exec_decp_again h
  | rx => exact exec_rx_again h
  | cfgModel v => exact absurd rfl (hmodel v)
  | csum =>
    obtain rfl := execCsum_next.1 h
    exact ⟨_, execCsum_next.2 rfl, registersKept_complete, rfl⟩
  | pack =>
    obtain ⟨F, hF, rfl⟩ := execPack_next.1 h
    exact ⟨_, execPack_next.2 ⟨F, hF, rfl⟩, registersKept_complete, rfl⟩
  | resolve m =>
    obtain ⟨model, hm, rfl⟩ := execResolve_next.1 h
    exact ⟨_, execResolve_next.2 ⟨model, hm, rfl⟩, registersKept_complete, rfl⟩
  | encp n =>
    obtain ⟨hn, hp, rfl⟩ := execEncp_next.1 h
    exact ⟨_, execEncp_next.2 ⟨hn, hp, rfl⟩, registersKept_complete, rfl, rfl⟩
  | tx =>
    obtain ⟨m, w, n, F, hm, hw, hn, hF, rfl⟩ := execTx_next.1 h
    exact ⟨_, execTx_next.2 ⟨m, w, n, F, hm, hw, hn, hF, rfl⟩, registersKept_complete, rfl, rfl, rfl⟩
  | cfgStrict v =>
    obtain ⟨hv, rfl⟩ := execCfgStrict_next.1 h
    exact ⟨_, execCfgStrict_next.2 ⟨hv, rfl⟩, ⟨rfl, rfl, rfl⟩, trivial⟩
  | cfgWifi v =>
    obtain ⟨hv, rfl⟩ := execCfgWifi_next.1 h
    exact ⟨_, execCfgWifi_next.2 ⟨hv, rfl⟩, ⟨rfl, rfl, rfl⟩, trivial⟩
  | cfgRepeat v =>
    obtain ⟨hv, rfl⟩ := execCfgRepeat_next.1 h
    exact ⟨_, execCfgRepeat_next.2 ⟨hv, rfl⟩, ⟨rfl, rfl, rfl⟩, trivial⟩
  | setst =>
    obtain ⟨c, hc, hlegal, rfl⟩ := execSetst_next.1 h
    exact ⟨_, execSetst_next.2 ⟨c, hc, hlegal, rfl⟩, ⟨rfl, rfl, rfl⟩, trivial⟩
  | getst =>
    obtain ⟨hwritten, rfl⟩ := execGetst_next.1 h
    exact ⟨_, execGetst_next.2 ⟨hwritten, rfl⟩, registersKept_complete, rfl⟩

end

/-- Settles O49: what a command reads is what it left, the record that `RX` commits included. -/
theorem commandsAreIdempotent : Obligations.CommandsAreIdempotent := by
  unfold Obligations.CommandsAreIdempotent
  exact fun i s t => exec_again

/-! ### The step (70_reset_and_hazards.md R264) -/

/-- Settles O2: the state that the command runs on is the presented one, whose ports are driven source by source. -/
theorem stepRunsThePresentedCommand : Obligations.StepRunsThePresentedCommand := by
  unfold Obligations.StepRunsThePresentedCommand
  intro s t rest i hhost hdecode
  have hstep : step s = exec i (present t rest s) := by
    simp only [step, hhost, runTransaction, hdecode]
  refine ⟨_, hstep, ⟨present_cfg .., present_climate .., present_status ..⟩, present_host .., present_out .., present_freeCtr .., ?_⟩
  rw [present_inp]
  refine ⟨drivenPorts_cmdw .., ?_, ?_, ?_, ?_, ?_, ?_, ?_, ?_⟩ <;> intros <;> simp only [drivenPorts, *, portValue, pulseValue]

/-- Settles O3: there is nothing to take. -/
theorem stepWithoutARequestHoldsTheState : Obligations.StepWithoutARequestHoldsTheState := by
  unfold Obligations.StepWithoutARequestHoldsTheState
  exact fun s h => step_next.2 (.inl ⟨h, rfl⟩)

end Sys2Proof.Machine
end
